-- ==== Sys2Proof/Word.lean ====
section
/-! DEFINITION. The plain value types of the block: register values (spec R8), the six MAC bytes (R23),
access widths (R42), the two MMIO windows (R55), and the shape of a transaction (R61). -/

namespace Sys2Proof

/-- A `u8` of the spec (R8). -/
abbrev Byte := BitVec 8

/-- A `u16` of the spec (R8). -/
abbrev Half := BitVec 16

/-- A `u32` of the spec (R8): a DMA register, a CSR value, a system-bus address, a transaction word. -/
abbrev Word := BitVec 32

/-- A logical register offset, 16 bits (R6 `LOGICAL_OFFSET_BITS`, R28 (a)). -/
abbrev Offset := BitVec 16

/-- The MAC address `S.mac[0] .. S.mac[5]` (R23). -/
structure Mac where
  b0 : Byte
  b1 : Byte
  b2 : Byte
  b3 : Byte
  b4 : Byte
  b5 : Byte
  deriving DecidableEq, Repr, Inhabited

/-- The access widths the adapter accepts (R42, R59): 1, 2 and 4 bytes. -/
inductive Width where
  | byte
  | half
  | long
  deriving DecidableEq, Repr

/-- The two physical MMIO windows (R55). -/
inductive Window where
  | a
  | b
  deriving DecidableEq, Repr

/-- What travels beside a transaction word (R61, D1). A transaction uses the part its kind needs and leaves the
rest alone: an MMIO write the value the bus carries, an RX delivery the frame and the bytes that follow it in the
backend's buffer (R143), a read or a query nothing (DESIGN CHOICE, log entry 2). -/
structure Operand where
  /-- the unsigned integer an MMIO write carries, not yet truncated to the access width (R60) -/
  value  : Nat
  /-- the delivered frame `pkt` (R151) -/
  frame  : List Byte
  /-- the bytes the backend supplies after the frame (R143) -/
  buffer : List Byte
  deriving DecidableEq, Repr

/-- A transaction: its 32-bit word and its operand (R61). -/
structure Transaction where
  word    : Word
  operand : Operand
  deriving DecidableEq, Repr

end Sys2Proof
end

