-- ==== Sys2Proof/Syntax.lean ====
section
/-! DEFINITION. The transactions that reach the block: one constructor per row of spec/opcode_table.json, in the
table's order (R64). A write carries its value already truncated to the access width (R60); a fallback row
carries the logical offset it was reached at (R62); a delivery carries the frame and the bytes the backend's
buffer holds after it (R143, R151). -/

namespace Sys2Proof

/-- A decoded transaction (R61, R64). -/
inductive Instr where
  /-- `RB_TX_STAT` (R70) -/
  | rbTxStat
  /-- `RB_TX_MASK` (R71) -/
  | rbTxMask
  /-- `RB_RX_STAT` (R72) -/
  | rbRxStat
  /-- `RB_RX_MASK` (R73) -/
  | rbRxMask
  /-- `RB_TX_MODE` (R74) -/
  | rbTxMode
  /-- `RB_RX_MODE` (R75) -/
  | rbRxMode
  /-- `RB_RST_MODE` (R76) -/
  | rbRstMode
  /-- `WB_TX_STAT` (R77) -/
  | wbTxStat (v : Byte)
  /-- `WB_TX_MASK` (R78) -/
  | wbTxMask (v : Byte)
  /-- `WB_RX_STAT` (R79) -/
  | wbRxStat (v : Byte)
  /-- `WB_RX_MASK` (R80) -/
  | wbRxMask (v : Byte)
  /-- `WB_TX_MODE` (R81) -/
  | wbTxMode (v : Byte)
  /-- `WB_RX_MODE` (R82) -/
  | wbRxMode (v : Byte)
  /-- `WB_RST_MODE` (R83) -/
  | wbRstMode (v : Byte)
  /-- `WB_MAC0` (R84) -/
  | wbMac0 (v : Byte)
  /-- `WB_MAC1` (R85) -/
  | wbMac1 (v : Byte)
  /-- `WB_MAC2` (R86) -/
  | wbMac2 (v : Byte)
  /-- `WB_MAC3` (R87) -/
  | wbMac3 (v : Byte)
  /-- `WB_MAC4` (R88) -/
  | wbMac4 (v : Byte)
  /-- `WB_MAC5` (R89) -/
  | wbMac5 (v : Byte)
  /-- `RL_TX_CSR` (R119) -/
  | rlTxCsr
  /-- `RL_RX_CSR` (R120) -/
  | rlRxCsr
  /-- `RL_TX_SAVEDBASE` (R91) -/
  | rlTxSavedbase
  /-- `RL_TX_SAVEDLIMIT` (R92) -/
  | rlTxSavedlimit
  /-- `RL_TX_BASE` (R93) -/
  | rlTxBase
  /-- `RL_TX_LIMIT` (R94) -/
  | rlTxLimit
  /-- `RL_TX_BASEW` (R95) -/
  | rlTxBasew
  /-- `RL_RX_SAVEDBASE` (R96) -/
  | rlRxSavedbase
  /-- `RL_RX_SAVEDLIMIT` (R97) -/
  | rlRxSavedlimit
  /-- `RL_RX_BASE` (R98) -/
  | rlRxBase
  /-- `RL_RX_LIMIT` (R99) -/
  | rlRxLimit
  /-- `RL_RX_CHAINBASE` (R100) -/
  | rlRxChainbase
  /-- `RL_RX_CHAINLIMIT` (R101) -/
  | rlRxChainlimit
  /-- `WL_TX_CSR` (R127) -/
  | wlTxCsr (v : Word)
  /-- `WL_RX_CSR` (R128) -/
  | wlRxCsr (v : Word)
  /-- `WL_TX_SAVEDBASE` (R102) -/
  | wlTxSavedbase (v : Word)
  /-- `WL_TX_SAVEDLIMIT` (R103) -/
  | wlTxSavedlimit (v : Word)
  /-- `WL_TX_BASE` (R104) -/
  | wlTxBase (v : Word)
  /-- `WL_TX_LIMIT` (R105) -/
  | wlTxLimit (v : Word)
  /-- `WL_TX_BASEW` (R106) -/
  | wlTxBasew (v : Word)
  /-- `WL_RX_SAVEDBASE` (R107) -/
  | wlRxSavedbase (v : Word)
  /-- `WL_RX_SAVEDLIMIT` (R108) -/
  | wlRxSavedlimit (v : Word)
  /-- `WL_RX_BASE` (R109) -/
  | wlRxBase (v : Word)
  /-- `WL_RX_LIMIT` (R110) -/
  | wlRxLimit (v : Word)
  /-- `WL_RX_CHAINBASE` (R111) -/
  | wlRxChainbase (v : Word)
  /-- `WL_RX_CHAINLIMIT` (R112) -/
  | wlRxChainlimit (v : Word)
  /-- `RX_DELIVER` (R151) -/
  | rxDeliver (pkt buffer : List Byte)
  /-- `CAN_ACCEPT` (R140) -/
  | canAccept
  /-- `RH` (R113) -/
  | rh (off : Offset)
  /-- `WH` (R114) -/
  | wh (off : Offset) (v : Half)
  /-- `RB_UNMAPPED` (R115) -/
  | rbUnmapped (off : Offset)
  /-- `WB_UNMAPPED` (R116) -/
  | wbUnmapped (off : Offset) (v : Byte)
  /-- `RL_UNMAPPED` (R117) -/
  | rlUnmapped (off : Offset)
  /-- `WL_UNMAPPED` (R118) -/
  | wlUnmapped (off : Offset) (v : Word)
  deriving DecidableEq, Repr

end Sys2Proof
end

