-- ==== Sys2Proof/WellFormed.lean ====
section
/-! DEFINITION. Which terms of Instr are transactions: a fallback row stands only for an offset that no exact row
of its width and direction has (R63 step 4, R115 to R118). -/

namespace Sys2Proof

/-- The offsets of the byte registers a byte read reaches (R27, R70 to R76). -/
def byteReadOffsets : List Offset :=
  [0x6000, 0x6001, 0x6002, 0x6003, 0x6004, 0x6005, 0x6006]

/-- The offsets of the byte registers a byte write reaches (R27, R77 to R89). -/
def byteWriteOffsets : List Offset :=
  [0x6000, 0x6001, 0x6002, 0x6003, 0x6004, 0x6005, 0x6006, 0x6008, 0x6009, 0x600a, 0x600b, 0x600c, 0x600d]

/-- The offsets of the long registers, for both directions (R27, R91 to R112, R119, R120, R127, R128). -/
def longOffsets : List Offset :=
  [0x0110, 0x0150, 0x4100, 0x4104, 0x4110, 0x4114, 0x4310, 0x4140, 0x4144, 0x4150, 0x4154, 0x4158, 0x415c]

/-- The instruction is one the decoder can answer: a fallback's offset has no exact row (R63, R115 to R118). The
2-byte rows have no exact row at any offset (R113, R114), and every operand of the other rows is an operand. -/
def Instr.wellFormed : Instr → Bool
  | .rbTxStat => true
  | .rbTxMask => true
  | .rbRxStat => true
  | .rbRxMask => true
  | .rbTxMode => true
  | .rbRxMode => true
  | .rbRstMode => true
  | .wbTxStat _ => true
  | .wbTxMask _ => true
  | .wbRxStat _ => true
  | .wbRxMask _ => true
  | .wbTxMode _ => true
  | .wbRxMode _ => true
  | .wbRstMode _ => true
  | .wbMac0 _ => true
  | .wbMac1 _ => true
  | .wbMac2 _ => true
  | .wbMac3 _ => true
  | .wbMac4 _ => true
  | .wbMac5 _ => true
  | .rlTxCsr => true
  | .rlRxCsr => true
  | .rlTxSavedbase => true
  | .rlTxSavedlimit => true
  | .rlTxBase => true
  | .rlTxLimit => true
  | .rlTxBasew => true
  | .rlRxSavedbase => true
  | .rlRxSavedlimit => true
  | .rlRxBase => true
  | .rlRxLimit => true
  | .rlRxChainbase => true
  | .rlRxChainlimit => true
  | .wlTxCsr _ => true
  | .wlRxCsr _ => true
  | .wlTxSavedbase _ => true
  | .wlTxSavedlimit _ => true
  | .wlTxBase _ => true
  | .wlTxLimit _ => true
  | .wlTxBasew _ => true
  | .wlRxSavedbase _ => true
  | .wlRxSavedlimit _ => true
  | .wlRxBase _ => true
  | .wlRxLimit _ => true
  | .wlRxChainbase _ => true
  | .wlRxChainlimit _ => true
  | .rxDeliver _ _ => true
  | .canAccept => true
  | .rh _ => true
  | .wh _ _ => true
  | .rbUnmapped off => !byteReadOffsets.contains off
  | .wbUnmapped off _ => !byteWriteOffsets.contains off
  | .rlUnmapped off => !longOffsets.contains off
  | .wlUnmapped off _ => !longOffsets.contains off

end Sys2Proof
end

