-- ==== Sys2Proof/Decode.lean ====
section
/-! DEFINITION. The MMIO windows (R55 to R58), the transaction word and its decoding (R61 to R66), and the encoder
written from the same table (R64). Total on every word and operand; what is refused is refused by name. -/

namespace Sys2Proof

/-- Why an access or a word is no transaction: the anomaly codes of R154 that the dispatcher and the decoder raise,
each with the value it records. -/
inductive DecodeError where
  /-- R58: the physical access runs past its window -/
  | outOfWindow (win : Window) (p : Nat)
  /-- R59, R63 step 2: the access width is not 1, 2 or 4 -/
  | badWidth (width : Nat)
  /-- R63 steps 1 and 3: reserved bits, the reserved kind, or a field a network kind must hold at 0 -/
  | reservedEncoding (word : Word)
  deriving DecidableEq, Repr

/-! ## Windows (R55 to R58) -/

/-- `WIN_A_SIZE`, `WIN_B_SIZE` (R6, R55). -/
def Window.size : Window → Nat
  | .a => 0x1000
  | .b => 0x4400

/-- `WIN_A_BASE`, `WIN_B_BASE` (R6, R56; the spec's decision D9, DESIGN CHOICE, log entry 10). -/
def Window.base : Window → Nat
  | .a => 0x6000
  | .b => 0x0000

/-- R56: `logical_offset = (p + window_base) & 0xFFFF`. -/
def logicalOffset (win : Window) (p : Nat) : Offset :=
  BitVec.ofNat 16 (p + win.base)

/-- The word of an MMIO access (R61, R64): `0x00010000 | OFF` and its five siblings. -/
def mmioWord (w : Width) (write : Bool) (off : Offset) : Word :=
  (match w, write with
    | .byte, false => 0x00010000#32
    | .byte, true  => 0x00090000#32
    | .half, false => 0x00020000#32
    | .half, true  => 0x000a0000#32
    | .long, false => 0x00040000#32
    | .long, true  => 0x000c0000#32) ||| off.setWidth 32

/-- The access width of a bus access, in bytes (R59). -/
def widthOf : Nat → Option Width
  | 1 => some .byte
  | 2 => some .half
  | 4 => some .long
  | _ => none

/-- A physical access as a transaction word (R56, R62): first the window (R58), then the width (R59): the order of the
two checks is the model's (DESIGN CHOICE, log entry 21). -/
def normalise (win : Window) (p width : Nat) (write : Bool) : Except DecodeError Word :=
  if win.size < p + width then .error (.outOfWindow win p)
  else
    match widthOf width with
    | some w => .ok (mmioWord w write (logicalOffset win p))
    | none => .error (.badWidth width)

/-! ## The fields of a word (R61; D1: DESIGN CHOICE, log entry 23) -/

/-- `OFF = t[15:0]`. -/
def Word.fieldOFF (t : Word) : Offset := t.extractLsb' 0 16

/-- `W = t[18:16]`. -/
def Word.fieldW (t : Word) : BitVec 3 := t.extractLsb' 16 3

/-- `D = t[19]`. -/
def Word.fieldD (t : Word) : BitVec 1 := t.extractLsb' 19 1

/-- `K = t[21:20]`. -/
def Word.fieldK (t : Word) : BitVec 2 := t.extractLsb' 20 2

/-- `RSV = t[31:22]`. -/
def Word.fieldRSV (t : Word) : BitVec 10 := t.extractLsb' 22 10

/-- R63 steps 1 to 3: the words that are refused, and why. -/
def reservedCheck (t : Word) : Option DecodeError :=
  if Word.fieldRSV t ≠ 0 ∨ Word.fieldK t = 3 then some (.reservedEncoding t)
  else if Word.fieldK t = 0 ∧ Word.fieldW t ≠ 1 ∧ Word.fieldW t ≠ 2 ∧ Word.fieldW t ≠ 4 then
    some (.badWidth (Word.fieldW t).toNat)
  else if Word.fieldK t ≠ 0 ∧ (Word.fieldOFF t ≠ 0 ∨ Word.fieldW t ≠ 0 ∨ Word.fieldD t ≠ 0) then
    some (.reservedEncoding t)
  else none

/-! ## Operands at the access width (R60; D20: DESIGN CHOICE, log entry 24) -/

/-- `trunc_8(v)`. -/
def Operand.byte (o : Operand) : Byte := BitVec.ofNat 8 o.value

/-- The 16-bit value of a 2-byte write, which the stub discards (R114). -/
def Operand.half (o : Operand) : Half := BitVec.ofNat 16 o.value

/-- `trunc_32(v)`. -/
def Operand.long (o : Operand) : Word := BitVec.ofNat 32 o.value

/-! ## The opcode map (R64) -/

/-- A row of the opcode table: it is selected when `(t & mask) == match` (R63 step 4). -/
structure Row where
  code : Word
  mask : Word
  make : Word → Operand → Instr

/-- R63 step 4: `(t & mask) == match`. -/
def Row.selects (r : Row) (t : Word) : Bool := t &&& r.mask == r.code

/-- An exact row, mask 0xFFFFFFFF (R63). -/
def exactRow (code : Word) (make : Operand → Instr) : Row := ⟨code, 0xffffffff#32, fun _ => make⟩

/-- A width-wide fallback row, mask 0xFFFF0000 (R63). -/
def fallbackRow (code : Word) (make : Offset → Operand → Instr) : Row :=
  ⟨code, 0xffff0000#32, fun t => make (Word.fieldOFF t)⟩

/-- The byte reads (R70 to R76). -/
def byteReadRows : List Row :=
  [exactRow 0x00016000 fun _ => .rbTxStat,
   exactRow 0x00016001 fun _ => .rbTxMask,
   exactRow 0x00016002 fun _ => .rbRxStat,
   exactRow 0x00016003 fun _ => .rbRxMask,
   exactRow 0x00016004 fun _ => .rbTxMode,
   exactRow 0x00016005 fun _ => .rbRxMode,
   exactRow 0x00016006 fun _ => .rbRstMode]

/-- The byte writes (R77 to R89). -/
def byteWriteRows : List Row :=
  [exactRow 0x00096000 fun o => .wbTxStat o.byte,
   exactRow 0x00096001 fun o => .wbTxMask o.byte,
   exactRow 0x00096002 fun o => .wbRxStat o.byte,
   exactRow 0x00096003 fun o => .wbRxMask o.byte,
   exactRow 0x00096004 fun o => .wbTxMode o.byte,
   exactRow 0x00096005 fun o => .wbRxMode o.byte,
   exactRow 0x00096006 fun o => .wbRstMode o.byte,
   exactRow 0x00096008 fun o => .wbMac0 o.byte,
   exactRow 0x00096009 fun o => .wbMac1 o.byte,
   exactRow 0x0009600a fun o => .wbMac2 o.byte,
   exactRow 0x0009600b fun o => .wbMac3 o.byte,
   exactRow 0x0009600c fun o => .wbMac4 o.byte,
   exactRow 0x0009600d fun o => .wbMac5 o.byte]

/-- The long reads (R91 to R101, R119, R120). -/
def longReadRows : List Row :=
  [exactRow 0x00040110 fun _ => .rlTxCsr,
   exactRow 0x00040150 fun _ => .rlRxCsr,
   exactRow 0x00044100 fun _ => .rlTxSavedbase,
   exactRow 0x00044104 fun _ => .rlTxSavedlimit,
   exactRow 0x00044110 fun _ => .rlTxBase,
   exactRow 0x00044114 fun _ => .rlTxLimit,
   exactRow 0x00044310 fun _ => .rlTxBasew,
   exactRow 0x00044140 fun _ => .rlRxSavedbase,
   exactRow 0x00044144 fun _ => .rlRxSavedlimit,
   exactRow 0x00044150 fun _ => .rlRxBase,
   exactRow 0x00044154 fun _ => .rlRxLimit,
   exactRow 0x00044158 fun _ => .rlRxChainbase,
   exactRow 0x0004415c fun _ => .rlRxChainlimit]

/-- The long writes (R102 to R112, R127, R128). -/
def longWriteRows : List Row :=
  [exactRow 0x000c0110 fun o => .wlTxCsr o.long,
   exactRow 0x000c0150 fun o => .wlRxCsr o.long,
   exactRow 0x000c4100 fun o => .wlTxSavedbase o.long,
   exactRow 0x000c4104 fun o => .wlTxSavedlimit o.long,
   exactRow 0x000c4110 fun o => .wlTxBase o.long,
   exactRow 0x000c4114 fun o => .wlTxLimit o.long,
   exactRow 0x000c4310 fun o => .wlTxBasew o.long,
   exactRow 0x000c4140 fun o => .wlRxSavedbase o.long,
   exactRow 0x000c4144 fun o => .wlRxSavedlimit o.long,
   exactRow 0x000c4150 fun o => .wlRxBase o.long,
   exactRow 0x000c4154 fun o => .wlRxLimit o.long,
   exactRow 0x000c4158 fun o => .wlRxChainbase o.long,
   exactRow 0x000c415c fun o => .wlRxChainlimit o.long]

/-- The network transactions (R140, R151). -/
def networkRows : List Row :=
  [exactRow 0x00100000 fun o => .rxDeliver o.frame o.buffer,
   exactRow 0x00200000 fun _ => .canAccept]

/-- The fallbacks, tried after every exact row (R113 to R118; D10: DESIGN CHOICE, log entry 24). -/
def fallbackRows : List Row :=
  [fallbackRow 0x00020000 fun off _ => .rh off,
   fallbackRow 0x000a0000 fun off o => .wh off o.half,
   fallbackRow 0x00010000 fun off _ => .rbUnmapped off,
   fallbackRow 0x00090000 fun off o => .wbUnmapped off o.byte,
   fallbackRow 0x00040000 fun off _ => .rlUnmapped off,
   fallbackRow 0x000c0000 fun off o => .wlUnmapped off o.long]

/-- The rows with priority 0 (R63). -/
def exactRows : List Row :=
  byteReadRows ++ byteWriteRows ++ longReadRows ++ longWriteRows ++ networkRows

/-- The whole table in the order the rows are tried (R63). -/
def rows : List Row := exactRows ++ fallbackRows

/-- R63: the refusals of steps 1 to 3, then the first row that selects the word. The last arm is not reached (R63:
every word that passes steps 1 to 3 matches a row). -/
def decode (t : Word) (o : Operand) : Except DecodeError Instr :=
  match reservedCheck t with
  | some e => .error e
  | none =>
    match rows.find? (·.selects t) with
    | some r => .ok (r.make t o)
    | none => .error (.reservedEncoding t)

/-! ## The encoder (R64) -/

/-- A transaction without an operand. -/
def bare (word : Word) : Transaction := ⟨word, ⟨0, [], []⟩⟩

/-- An MMIO write: the word and the value beside it. -/
def carrying (word : Word) (value : Nat) : Transaction := ⟨word, ⟨value, [], []⟩⟩

/-- The transaction of an instruction: its word (R64) and its operand (R61). -/
def encode : Instr → Transaction
  | .rbTxStat => bare 0x00016000
  | .rbTxMask => bare 0x00016001
  | .rbRxStat => bare 0x00016002
  | .rbRxMask => bare 0x00016003
  | .rbTxMode => bare 0x00016004
  | .rbRxMode => bare 0x00016005
  | .rbRstMode => bare 0x00016006
  | .wbTxStat v => carrying 0x00096000 v.toNat
  | .wbTxMask v => carrying 0x00096001 v.toNat
  | .wbRxStat v => carrying 0x00096002 v.toNat
  | .wbRxMask v => carrying 0x00096003 v.toNat
  | .wbTxMode v => carrying 0x00096004 v.toNat
  | .wbRxMode v => carrying 0x00096005 v.toNat
  | .wbRstMode v => carrying 0x00096006 v.toNat
  | .wbMac0 v => carrying 0x00096008 v.toNat
  | .wbMac1 v => carrying 0x00096009 v.toNat
  | .wbMac2 v => carrying 0x0009600a v.toNat
  | .wbMac3 v => carrying 0x0009600b v.toNat
  | .wbMac4 v => carrying 0x0009600c v.toNat
  | .wbMac5 v => carrying 0x0009600d v.toNat
  | .rlTxCsr => bare 0x00040110
  | .rlRxCsr => bare 0x00040150
  | .rlTxSavedbase => bare 0x00044100
  | .rlTxSavedlimit => bare 0x00044104
  | .rlTxBase => bare 0x00044110
  | .rlTxLimit => bare 0x00044114
  | .rlTxBasew => bare 0x00044310
  | .rlRxSavedbase => bare 0x00044140
  | .rlRxSavedlimit => bare 0x00044144
  | .rlRxBase => bare 0x00044150
  | .rlRxLimit => bare 0x00044154
  | .rlRxChainbase => bare 0x00044158
  | .rlRxChainlimit => bare 0x0004415c
  | .wlTxCsr v => carrying 0x000c0110 v.toNat
  | .wlRxCsr v => carrying 0x000c0150 v.toNat
  | .wlTxSavedbase v => carrying 0x000c4100 v.toNat
  | .wlTxSavedlimit v => carrying 0x000c4104 v.toNat
  | .wlTxBase v => carrying 0x000c4110 v.toNat
  | .wlTxLimit v => carrying 0x000c4114 v.toNat
  | .wlTxBasew v => carrying 0x000c4310 v.toNat
  | .wlRxSavedbase v => carrying 0x000c4140 v.toNat
  | .wlRxSavedlimit v => carrying 0x000c4144 v.toNat
  | .wlRxBase v => carrying 0x000c4150 v.toNat
  | .wlRxLimit v => carrying 0x000c4154 v.toNat
  | .wlRxChainbase v => carrying 0x000c4158 v.toNat
  | .wlRxChainlimit v => carrying 0x000c415c v.toNat
  | .rxDeliver pkt buffer => ⟨0x00100000, ⟨0, pkt, buffer⟩⟩
  | .canAccept => bare 0x00200000
  | .rh off => bare (mmioWord .half false off)
  | .wh off v => carrying (mmioWord .half true off) v.toNat
  | .rbUnmapped off => bare (mmioWord .byte false off)
  | .wbUnmapped off v => carrying (mmioWord .byte true off) v.toNat
  | .rlUnmapped off => bare (mmioWord .long false off)
  | .wlUnmapped off v => carrying (mmioWord .long true off) v.toNat

/-- The instruction the decoder reads from a table word of 32 bits with a zero operand (value 0, empty frame, empty
buffer). The word is one number (R61), so no byte order enters. -/
def decodeTableWord (nbits w : Nat) : Option Instr :=
  if nbits ≤ 32 ∧ w < 2 ^ 32 then
    match decode (BitVec.ofNat 32 w) ⟨0, [], []⟩ with
    | .ok i => some i
    | .error _ => none
  else none

end Sys2Proof
end

