-- ==== Sys2Proof/Config.lean ====
section
/-! DEFINITION. What the spec leaves to parameters (R6, R7): the shape of the parameter record, the OPEN
parameters, and the source of free values (R10 `Draw`). The decided values stand in Machine/Params.lean. -/

namespace Sys2Proof

/-- The seven single-bit masks over a CSR value (R18): three state masks and four command masks. -/
structure CsrLayout where
  enable         : Word
  supdate        : Word
  complete       : Word
  cmdSetEnable   : Word
  cmdSetSupdate  : Word
  cmdClrComplete : Word
  cmdReset       : Word
  deriving DecidableEq, Repr

/-- A mask with exactly one bit set (R18). -/
def isSingleBit (m : Word) : Bool :=
  (List.range 32).any fun i => m == 1#32 <<< i

/-- R18: every mask has exactly one bit set, the state masks are pairwise distinct and the command masks are
pairwise distinct; a command mask may equal a state mask. -/
def CsrLayout.wellFormed (L : CsrLayout) : Bool :=
  [L.enable, L.supdate, L.complete, L.cmdSetEnable, L.cmdSetSupdate, L.cmdClrComplete, L.cmdReset].all isSingleBit
    && decide [L.enable, L.supdate, L.complete].Nodup
    && decide [L.cmdSetEnable, L.cmdSetSupdate, L.cmdClrComplete, L.cmdReset].Nodup

/-- `STATE_MASK` (R18): the bits a CSR stores. -/
def CsrLayout.stateMask (L : CsrLayout) : Word := L.enable ||| L.supdate ||| L.complete

/-- The parameters of R6 that the register rules read. -/
structure Params where
  /-- `CSR_LAYOUT` -/
  layout            : CsrLayout
  /-- `TX_LIMIT_MASK` -/
  txLimitMask       : Word
  /-- `TX_BUF_CAPACITY`, in bytes -/
  txBufCapacity     : Nat
  /-- `RX_SUPDATE_AUTOCLEAR` -/
  rxSupdateAutoclear : Bool
  /-- `MAX_RX_FRAME`, in bytes -/
  maxRxFrame        : Nat
  deriving DecidableEq, Repr

/-- R7: `TX_LIMIT_MASK = 2^k - 1` for a `k` with `24 <= k <= 31`. -/
def Params.limitMaskAllowed (P : Params) : Bool :=
  (List.range 8).any fun j => P.txLimitMask == BitVec.ofNat 32 (2 ^ (24 + j) - 1)

/-- The constraints of R7. -/
def Params.wellFormed (P : Params) : Bool :=
  P.layout.wellFormed && P.limitMaskAllowed && decide (0x100 ≤ P.txBufCapacity)

namespace Config

/-- OPEN (R6, D6): `TX_LIMIT_MASK = 2^k - 1` with `k = 24 + txLimitExtraBits`, so `24 <= k <= 31` (R7) and nothing
else is known of it (UNVERIFIED, log entry 9). -/
opaque txLimitExtraBits : Fin 8

/-- OPEN (R6, D7): `TX_BUF_CAPACITY = 0x100 + txBufExtraBytes`, so at least 0x100 (R7) and nothing else is known of
it (UNVERIFIED, log entry 9). -/
opaque txBufExtraBytes : Nat

/-- OPEN (R6, D15): `CONFIGURED_MAC`, the address the property configuration supplies at creation, all zero when
none was configured (R171); nothing is known of it (UNVERIFIED, log entry 5). -/
opaque configuredMac : Mac

/-- The free bytes of `Draw` (R10): byte number `n` of all the bytes the steps draw, under no law. `State.draws`
counts how many are used up (DESIGN CHOICE, log entry 8). -/
opaque freeByte : Nat → Byte

end Config

end Sys2Proof
end

