-- ==== Sys2Proof/Machine/Params.lean ====
section
/-! DEFINITION. The values of the parameters of R6 that every transaction runs with: the decided ones, and the OPEN
ones taken from Config. The operations of the machine take the record as an argument, so that they are also
defined for any other choice. -/

namespace Sys2Proof.Machine

/-- The default `CSR_LAYOUT` (R18, decision D3; PRESUMED, log entry 11). -/
def csrLayout : CsrLayout where
  enable         := 0x01000000
  supdate        := 0x02000000
  complete       := 0x08000000
  cmdSetEnable   := 0x00010000
  cmdSetSupdate  := 0x00020000
  cmdClrComplete := 0x00080000
  cmdReset       := 0x00100000

/-- `TX_LIMIT_MASK = 2^k - 1`, `24 <= k <= 31` (R7). -/
def txLimitMask : Word := BitVec.ofNat 32 (2 ^ (24 + Config.txLimitExtraBits.val) - 1)

/-- `TX_BUF_CAPACITY >= 0x100` (R7). -/
def txBufCapacity : Nat := 0x100 + Config.txBufExtraBytes

/-- The parameters of the block (R6). -/
def params : Params where
  layout             := csrLayout
  txLimitMask        := txLimitMask
  txBufCapacity      := txBufCapacity
  rxSupdateAutoclear := false
  maxRxFrame         := 0xffffffe0

/-- `STAT_ACK` (R6): the status write value that is not stored. -/
def statAck : Byte := 0xff

/-- `STAT_IDLE` (R6): stored instead, and set on completion. -/
def statIdle : Byte := 0x80

/-- `RX_GATE_MASK` (R6). -/
def rxGateMask : Byte := 0x03

/-- `RX_ALIGN` (R6), in bytes. -/
def rxAlign : Nat := 32

end Sys2Proof.Machine
end

