-- ==== Sys2Proof/Machine/State.lean ====
section
/-! DEFINITION. The state of the block (R15 to R34), the events of its history (R11), the inputs its agents deliver
(R13, R54), and the reasons a step can stop (R154). All of it plain data. -/

namespace Sys2Proof.Machine

/-- A `DmaChannel` record (R16). TX `chainbase`, TX `chainlimit` and RX `basew` are read and written by no rule (R30;
D25: DESIGN CHOICE, log entry 27). -/
structure DmaChannel where
  /-- control/status: state bits only (R17) -/
  csr        : Word
  /-- current buffer start -/
  base       : Word
  /-- current buffer end -/
  limit      : Word
  /-- saved window, start -/
  savedbase  : Word
  /-- saved window, end -/
  savedlimit : Word
  /-- next window, start -/
  chainbase  : Word
  /-- next window, end -/
  chainlimit : Word
  /-- the latch behind the TX base alias -/
  basew      : Word
  deriving DecidableEq, Repr

/-- The two channels (R12, R16). -/
inductive Chan where
  | tx
  | rx
  deriving DecidableEq, Repr

/-- The four interrupt lines (R24, R157), numbered 0, 1, 2, 3 in this order. -/
inductive IrqLine where
  | tx
  | rx
  | txDma
  | rxDma
  deriving DecidableEq, Repr

/-- The four interrupt levels `S.irq` (R24): level 1 is `true`. -/
structure IrqLevels where
  tx    : Bool
  rx    : Bool
  txDma : Bool
  rxDma : Bool
  deriving DecidableEq, Repr

/-- What a delivery returns to the backend (R151). -/
inductive RxResult where
  | accepted
  | notAccepted
  deriving DecidableEq, Repr

/-- An event of the history (R10, R11). -/
inductive Event where
  /-- `BusRead(addr, n, bytes)` -/
  | busRead (addr : Word) (n : Nat) (bytes : List Byte)
  /-- `BusWrite(addr, v)` -/
  | busWrite (addr : Word) (bytes : List Byte)
  /-- `NetSend(bytes)` -/
  | netSend (bytes : List Byte)
  /-- `Irq(line, 1)`: no other level is ever driven (R24) -/
  | irq (line : IrqLine)
  /-- `MmioRead(off, w, v)`, the read value zero-extended (R60) -/
  | mmioRead (off : Offset) (w : Width) (v : Word)
  /-- `MmioWrite(off, w, v)`, the written value at the access width, zero-extended (R60) -/
  | mmioWrite (off : Offset) (w : Width) (v : Word)
  /-- `RxDeliver(bytes, result)` -/
  | rxDeliver (pkt : List Byte) (result : RxResult)
  /-- `CanAccept(result)` -/
  | canAccept (result : Bool)
  /-- `TxRejected(len)` (R132) -/
  | txRejected (len : Nat)
  deriving DecidableEq, Repr

/-- An input one of the agents delivers (R13, R54). -/
inductive Delivery where
  /-- a transaction at its logical offset, or a network transaction (R61) -/
  | transaction (t : Transaction)
  /-- a bus access through a window: offset into the window, width in bytes, direction, bus value (R55, R56) -/
  | physical (win : Window) (p width : Nat) (write : Bool) (value : Nat)
  /-- another agent stores bytes in the system-bus memory (R32, R35, R50); no transaction of the block -/
  | busStore (addr : Word) (bytes : List Byte)
  /-- the interrupt sink deasserts a line by its own means (R54), outside `S` (R32); no transaction of the block -/
  | deassert (line : IrqLine)
  /-- the platform re-creates the device (R173); no transaction of the block -/
  | platformReset
  deriving DecidableEq, Repr

/-- The system-bus memory (R28 (c)): the bytes something has stored, as address and byte, addresses strictly rising.
An address that is not listed holds no value the model knows; a DMA read of it answers a free byte (R35, log
entry 7). -/
abbrev Memory := List Host.Cell

/-- The canonical form of memory: addresses strictly rising, each inside the 2^32-byte space (R28 (c)). No listed
byte equals what an unlisted address holds, since that is no value. -/
abbrev Memory.wf (m : Memory) : Prop :=
  m.Pairwise (fun c d => c.1 < d.1) ∧ ∀ c ∈ m, c.1 < 2 ^ 32

/-- The block raises no fault: "it is a hardware model and must never fail an access" (R153), and every system-bus
address can be reached (R44, R45). So the type has no constructor, and no step faults. -/
inductive Fault where
  deriving DecidableEq, Repr

/-- Why a delivery has no meaning (R154, R155): the step changes nothing and the run ends refused. Every reason is
safe: the model stops where the source calls the access fatal or the host has broken a duty. -/
inductive Refusal where
  /-- raised by exec for a constructor that has no meaning yet; no arm does so. Safe. -/
  | notModelled (mnemonic : String)
  /-- raised by the dispatcher for a physical access beyond its window (R58). Safe. -/
  | outOfWindow (win : Window) (p : Nat)
  /-- raised by the dispatcher and the decoder for a width other than 1, 2 or 4 (R59, R63 step 2). Safe. -/
  | badWidth (width : Nat)
  /-- raised by the decoder for reserved bits or the reserved kind (R63 steps 1 and 3). Safe. -/
  | reservedEncoding (word : Word)
  /-- raised by RX_DELIVER for a frame longer than `MAX_RX_FRAME` (R151, D30). Safe. -/
  | frameTooLong (n : Nat)
  deriving DecidableEq, Repr

/-- The state of the machine: the record `S` (R15), the event history (R11), the system-bus memory its DMA acts on
(R35), and three fields of the model's own, `sinkLines`, `pending` and `draws`. -/
@[ext]
structure State where
  tx      : DmaChannel
  rx      : DmaChannel
  txStat  : Byte
  txMask  : Byte
  txMode  : Byte
  rxStat  : Byte
  rxMask  : Byte
  rxMode  : Byte
  rstMode : Byte
  mac     : Mac
  irq     : IrqLevels
  mem     : Memory
  /-- the four lines as the interrupt sink holds them, outside `S`: raised by the block's assertions, lowered by the
  sink's own means (R54; DEDUCED, log entry 31) -/
  sinkLines : IrqLevels
  history : List Event
  /-- the inputs the agents will deliver, the next one first (R46; DESIGN CHOICE, log entry 1) -/
  pending : List Delivery
  /-- how many free bytes have been drawn (R10 `Draw`; DESIGN CHOICE, log entry 8) -/
  draws   : Nat
  deriving DecidableEq, Repr

/-- A channel at creation (R171). -/
def DmaChannel.reset : DmaChannel := ⟨0, 0, 0, 0, 0, 0, 0, 0⟩

/-- The state at creation (R171; D15: DESIGN CHOICE, log entry 4): every field 0, the MAC the configured one, every
level 0, no event. No input waits, no free byte is drawn and the sink holds every line low (log entries 1, 8 and 31). -/
def State.reset : State where
  tx      := DmaChannel.reset
  rx      := DmaChannel.reset
  txStat  := 0x00
  txMask  := 0x00
  txMode  := 0x00
  rxStat  := 0x00
  rxMask  := 0x00
  rxMode  := 0x00
  rstMode := 0x00
  mac     := Config.configuredMac
  irq     := ⟨false, false, false, false⟩
  mem     := []
  sinkLines := ⟨false, false, false, false⟩
  history := []
  pending := []
  draws   := 0

end Sys2Proof.Machine
end

