-- ==== Sys2Proof/Machine/Flags.lean ====
section
/-! DEFINITION. The flags of the block (R26): the CSR bits and what each command does to them, the accept gate, and
the value a status byte takes from a write. -/

namespace Sys2Proof.Machine

/-- `(v & mask) != 0`: the test of a command or state bit (R121, R146). -/
def hits (v mask : Word) : Bool := v &&& mask != 0

/-- R122: `csr & ~(COMPLETE | SUPDATE | ENABLE)`. -/
def csrCleared (L : CsrLayout) (c : Word) : Word :=
  c &&& ~~~(L.complete ||| L.supdate ||| L.enable)

/-- R123: `csr | ENABLE` (D4: DESIGN CHOICE, log entry 17). -/
def csrEnabled (L : CsrLayout) (c : Word) : Word := c ||| L.enable

/-- R124: `csr | SUPDATE`. -/
def csrUpdateLatched (L : CsrLayout) (c : Word) : Word := c ||| L.supdate

/-- R125: `csr & ~COMPLETE`. -/
def csrAcknowledged (L : CsrLayout) (c : Word) : Word := c &&& ~~~L.complete

/-- R135: `csr | COMPLETE | SUPDATE`, at the end of a TX transfer. -/
def csrTxDone (L : CsrLayout) (c : Word) : Word := c ||| L.complete ||| L.supdate

/-- R148: `csr | COMPLETE`, at the end of an RX transfer. -/
def csrRxDone (L : CsrLayout) (c : Word) : Word := c ||| L.complete

/-- R147: `csr & ~SUPDATE`, after an adoption when `RX_SUPDATE_AUTOCLEAR` is true. -/
def csrChainTaken (L : CsrLayout) (c : Word) : Word := c &&& ~~~L.supdate

/-- The accept gate `Gate(S) = ((S.rxMode & 0x03) != 0)` (R139). -/
def gate (s : State) : Bool := s.rxMode &&& rxGateMask != 0

/-- What a status write stores (R77, R79): 0xFF stores 0x80, any other value is stored verbatim. -/
def statusStored (v : Byte) : Byte := if v = statAck then statIdle else v

end Sys2Proof.Machine
end

