-- ==== Sys2Proof/Machine/Operands.lean ====
section
/-! DEFINITION. What the transfers compute from their operands and registers: the TX length (R130), the rounded RX
length (R142) and the bytes an RX transfer writes (R143, R144). -/

namespace Sys2Proof.Machine

/-- `ceil32(n) = (n + 31) - ((n + 31) mod 32)` (R8). -/
def ceil32 (n : Nat) : Nat := (n + (rxAlign - 1)) - (n + (rxAlign - 1)) % rxAlign

/-- The TX length (R130): `lim = limit & TX_LIMIT_MASK`, and `lim - base` when that is not negative, else 0. -/
def txLength (P : Params) (c : DmaChannel) : Nat :=
  (c.limit &&& P.txLimitMask).toNat - c.base.toNat

/-- The `k` bytes past a frame (R143, `Draw(n - N)`): the bytes the backend's buffer holds there, and once the
delivery gives no more, free bytes number `d`, `d + 1`, ... -/
def padding (buffer : List Byte) (d : Nat) : Nat → List Byte
  | 0 => []
  | k + 1 =>
    match buffer with
    | [] => Config.freeByte d :: padding [] (d + 1) k
    | b :: rest => b :: padding rest d k

/-- How many free bytes `padding` takes. -/
def paddingDraws (buffer : List Byte) (k : Nat) : Nat := k - buffer.length

/-- The bytes an RX transfer writes (R144): the frame and its padding, `ceil32(N)` bytes. -/
def rxBytes (pkt buffer : List Byte) (d : Nat) : List Byte :=
  pkt ++ padding buffer d (ceil32 pkt.length - pkt.length)

end Sys2Proof.Machine
end

