-- ==== Sys2Proof/Machine/Ops.lean ====
section
/-! DEFINITION. The named operations over the state: one update per field, the system-bus memory, the primitives of
R10, and the asserting of an interrupt line, which is all the block does towards a trap (R162). -/

namespace Sys2Proof.Machine

/-! ## One update per field -/

def State.setTx (s : State) (c : DmaChannel) : State := { s with tx := c }
def State.setRx (s : State) (c : DmaChannel) : State := { s with rx := c }
def State.setTxStat (s : State) (v : Byte) : State := { s with txStat := v }
def State.setTxMask (s : State) (v : Byte) : State := { s with txMask := v }
def State.setTxMode (s : State) (v : Byte) : State := { s with txMode := v }
def State.setRxStat (s : State) (v : Byte) : State := { s with rxStat := v }
def State.setRxMask (s : State) (v : Byte) : State := { s with rxMask := v }
def State.setRxMode (s : State) (v : Byte) : State := { s with rxMode := v }
def State.setRstMode (s : State) (v : Byte) : State := { s with rstMode := v }
def State.setMac (s : State) (m : Mac) : State := { s with mac := m }
def State.setIrq (s : State) (l : IrqLevels) : State := { s with irq := l }
def State.setMem (s : State) (m : Memory) : State := { s with mem := m }
def State.setSinkLines (s : State) (l : IrqLevels) : State := { s with sinkLines := l }
def State.setPending (s : State) (q : List Delivery) : State := { s with pending := q }
def State.setDraws (s : State) (d : Nat) : State := { s with draws := d }

/-- Append an event to the history (R11). -/
def State.record (s : State) (e : Event) : State := { s with history := s.history ++ [e] }

/-- `S.ch` for a channel named by the rule (R121). -/
def State.chan (s : State) : Chan → DmaChannel
  | .tx => s.tx
  | .rx => s.rx

/-- `S.ch.csr <- v` (R122 to R125). -/
def State.setCsr (s : State) (ch : Chan) (v : Word) : State :=
  match ch with
  | .tx => s.setTx { s.tx with csr := v }
  | .rx => s.setRx { s.rx with csr := v }

/-! ## The system-bus memory (R28 (c), R35) -/

/-- The byte memory holds at an address, if something has stored one. -/
def Memory.byteAt : Memory → Nat → Option Byte
  | [], _ => none
  | c :: rest, a => if c.1 = a then some c.2 else Memory.byteAt rest a

/-- Store one byte, keeping the addresses strictly rising. -/
def Memory.store : Memory → Nat → Byte → Memory
  | [], a, b => [(a, b)]
  | c :: rest, a, b =>
    if a < c.1 then (a, b) :: c :: rest
    else if c.1 = a then (a, b) :: rest
    else c :: Memory.store rest a b

/-- Store a byte string: byte `i` at address `addr + i` mod 2^32 (R37, R41; D17, D24: DESIGN CHOICE, log
entry 22). -/
def Memory.storeBytes (m : Memory) (addr : Word) : List Byte → Memory
  | [] => m
  | b :: rest => Memory.storeBytes (m.store addr.toNat b) (addr + 1) rest

/-- What the bus answers for `n` bytes from `addr` (R35, R37, R41): byte `i` is the one memory holds at `addr + i`
mod 2^32, or, where it holds none, free byte number `d + i` (DESIGN CHOICE, log entry 7). -/
def Memory.fetchBytes (m : Memory) (addr : Word) (d : Nat) : Nat → List Byte
  | 0 => []
  | n + 1 => (m.byteAt addr.toNat).getD (Config.freeByte d) :: Memory.fetchBytes m (addr + 1) (d + 1) n

/-! ## The primitives of R10 -/

/-- The bytes `MemRead(addr, n)` returns. -/
def State.memReadBytes (s : State) (addr : Word) (n : Nat) : List Byte :=
  s.mem.fetchBytes addr s.draws n

/-- `MemRead(addr, n)`, which never fails (D23: DESIGN CHOICE, log entry 28): the event, when `n > 0` (D8: DESIGN
CHOICE, log entry 19); the free bytes it may have used are used up. -/
def State.memRead (s : State) (addr : Word) (n : Nat) : State :=
  if n = 0 then s
  else (s.record (.busRead addr n (s.memReadBytes addr n))).setDraws (s.draws + n)

/-- `MemWrite(addr, n, v)`: the bytes, and the event when `n > 0` (D8: DESIGN CHOICE, log entry 19). -/
def State.memWrite (s : State) (addr : Word) (v : List Byte) : State :=
  if v = [] then s
  else (s.setMem (s.mem.storeBytes addr v)).record (.busWrite addr v)

/-- `NetSend(bytes)`, which always succeeds (R52). -/
def State.netSend (s : State) (bytes : List Byte) : State := s.record (.netSend bytes)

/-- The levels after `Irq(line)`: `S.irq[line] <- 1` (R24); no rule of the device sets a level to 0 (D14: DESIGN
CHOICE, log entry 20). -/
def IrqLevels.assert (l : IrqLevels) : IrqLine → IrqLevels
  | .tx => { l with tx := true }
  | .rx => { l with rx := true }
  | .txDma => { l with txDma := true }
  | .rxDma => { l with rxDma := true }

/-- `Irq(line)` (R10, R24): the block's level becomes 1 and the sink sees the line raised (R54, R157). -/
def State.assertIrq (s : State) (line : IrqLine) : State :=
  ((s.setIrq (s.irq.assert line)).setSinkLines (s.sinkLines.assert line)).record (.irq line)

/-! ## What every MMIO access does (R69) -/

/-- An MMIO read: the value it returns stands in its event (R11), and nothing else happens (R43, R69; D22:
DESIGN CHOICE, log entry 25). -/
def State.mmioRead (s : State) (off : Offset) (w : Width) (v : Word) : State :=
  s.record (.mmioRead off w v)

/-- The own event of an MMIO write (R11), ahead of what the write triggers (R14; DESIGN CHOICE, log entry 3). -/
def State.mmioWrite (s : State) (off : Offset) (w : Width) (v : Word) : State :=
  s.record (.mmioWrite off w v)

/-! ## The identity record (R90) -/

/-- "Unset": all six bytes zero (R90, D13; PRESUMED, log entry 12). -/
def Mac.unset (m : Mac) : Bool := m == ⟨0, 0, 0, 0, 0, 0⟩

/-- A `DEFAULT_MAC` draw: six free bytes (R90). -/
def defaultMac (d : Nat) : Mac :=
  ⟨Config.freeByte d, Config.freeByte (d + 1), Config.freeByte (d + 2), Config.freeByte (d + 3),
    Config.freeByte (d + 4), Config.freeByte (d + 5)⟩

/-- `MacDefaultIfUnset()` (R90). -/
def State.macDefaultIfUnset (s : State) : State :=
  if Mac.unset s.mac then (s.setMac (defaultMac s.draws)).setDraws (s.draws + 6) else s

/-! ## The interrupt sink (R54) -/

/-- The lines after the sink has lowered one (R54). -/
def IrqLevels.deassert (l : IrqLevels) : IrqLine → IrqLevels
  | .tx => { l with tx := false }
  | .rx => { l with rx := false }
  | .txDma => { l with txDma := false }
  | .rxDma => { l with rxDma := false }

/-- The sink deasserts a line by its own means (R54): the line as the sink holds it becomes low. No field of `S` changes,
`S.irq` among them, since only the rules of the block mutate `S` (R32), and no event is recorded, since R11 lists none
(DEDUCED, log entry 31). -/
def State.deassertIrq (s : State) (line : IrqLine) : State := s.setSinkLines (s.sinkLines.deassert line)

/-! ## The platform (R173) -/

/-- A platform reset, modelled as re-creation with the state of R171. Bus memory and the sink are not the
device's (R32) and the inputs still to come are the agents'; the free bytes used so far stay used (D15: DESIGN CHOICE,
log entry 29). -/
def State.recreate (s : State) : State :=
  { State.reset with mem := s.mem, sinkLines := s.sinkLines, pending := s.pending, draws := s.draws }

end Sys2Proof.Machine
end

