-- ==== Sys2Proof/Machine/ByteRead.lean ====
section
/-! DEFINITION. The byte reads (R70 to R76): the register, unchanged by the read (R69). -/

namespace Sys2Proof.Machine

/-- `RB_TX_STAT` (R70): `result <- S.txStat`. -/
def execRbTxStat (s : State) : Host.Outcome State Fault Refusal :=
  .next (s.mmioRead 0x6000 .byte (s.txStat.setWidth 32))

/-- `RB_TX_MASK` (R71): `result <- S.txMask`. -/
def execRbTxMask (s : State) : Host.Outcome State Fault Refusal :=
  .next (s.mmioRead 0x6001 .byte (s.txMask.setWidth 32))

/-- `RB_RX_STAT` (R72): `result <- S.rxStat`. -/
def execRbRxStat (s : State) : Host.Outcome State Fault Refusal :=
  .next (s.mmioRead 0x6002 .byte (s.rxStat.setWidth 32))

/-- `RB_RX_MASK` (R73): `result <- S.rxMask`. -/
def execRbRxMask (s : State) : Host.Outcome State Fault Refusal :=
  .next (s.mmioRead 0x6003 .byte (s.rxMask.setWidth 32))

/-- `RB_TX_MODE` (R74): `result <- S.txMode`. -/
def execRbTxMode (s : State) : Host.Outcome State Fault Refusal :=
  .next (s.mmioRead 0x6004 .byte (s.txMode.setWidth 32))

/-- `RB_RX_MODE` (R75): `result <- S.rxMode`. -/
def execRbRxMode (s : State) : Host.Outcome State Fault Refusal :=
  .next (s.mmioRead 0x6005 .byte (s.rxMode.setWidth 32))

/-- `RB_RST_MODE` (R76): `result <- S.rstMode`. -/
def execRbRstMode (s : State) : Host.Outcome State Fault Refusal :=
  .next (s.mmioRead 0x6006 .byte (s.rstMode.setWidth 32))

end Sys2Proof.Machine
end

