-- ==== Sys2Proof/Machine/ByteWrite.lean ====
section
/-! DEFINITION. The byte writes other than the MAC (R77 to R83). Each leaves every other field as it was (R69). -/

namespace Sys2Proof.Machine

/-- `WB_TX_STAT` (R77): 0xFF stores 0x80 in `S.txStat`, any other value is stored verbatim. -/
def execWbTxStat (v : Byte) (s : State) : Host.Outcome State Fault Refusal :=
  .next ((s.mmioWrite 0x6000 .byte (v.setWidth 32)).setTxStat (statusStored v))

/-- `WB_TX_MASK` (R78): `S.txMask <- v`, verbatim. -/
def execWbTxMask (v : Byte) (s : State) : Host.Outcome State Fault Refusal :=
  .next ((s.mmioWrite 0x6001 .byte (v.setWidth 32)).setTxMask v)

/-- `WB_RX_STAT` (R79): 0xFF stores 0x80 in `S.rxStat`, any other value is stored verbatim. -/
def execWbRxStat (v : Byte) (s : State) : Host.Outcome State Fault Refusal :=
  .next ((s.mmioWrite 0x6002 .byte (v.setWidth 32)).setRxStat (statusStored v))

/-- `WB_RX_MASK` (R80): `S.rxMask <- v`, verbatim. -/
def execWbRxMask (v : Byte) (s : State) : Host.Outcome State Fault Refusal :=
  .next ((s.mmioWrite 0x6003 .byte (v.setWidth 32)).setRxMask v)

/-- `WB_TX_MODE` (R81): `S.txMode <- v`, verbatim. -/
def execWbTxMode (v : Byte) (s : State) : Host.Outcome State Fault Refusal :=
  .next ((s.mmioWrite 0x6004 .byte (v.setWidth 32)).setTxMode v)

/-- `WB_RX_MODE` (R82): `S.rxMode <- v`, verbatim. -/
def execWbRxMode (v : Byte) (s : State) : Host.Outcome State Fault Refusal :=
  .next ((s.mmioWrite 0x6005 .byte (v.setWidth 32)).setRxMode v)

/-- `WB_RST_MODE` (R83): `S.rstMode <- v`, verbatim. -/
def execWbRstMode (v : Byte) (s : State) : Host.Outcome State Fault Refusal :=
  .next ((s.mmioWrite 0x6006 .byte (v.setWidth 32)).setRstMode v)

end Sys2Proof.Machine
end

