-- ==== Sys2Proof/Machine/Dma.lean ====
section
/-! DEFINITION. The two transfer actions and the CSR write, over any parameters: the TX transfer (R129 to R138), the
CSR actions (R121 to R126) and the RX transfer (R139 to R151). -/

namespace Sys2Proof.Machine

/-- Steps 2 to 5 of the TX transfer (R133 to R136) for a length within the capacity. -/
def txComplete (P : Params) (len : Nat) (s : State) : State :=
  ((((s.memRead s.tx.base len).netSend (s.memReadBytes s.tx.base len)).setCsr .tx
    (csrTxDone P.layout s.tx.csr)).setTxStat statIdle).assertIrq .txDma

/-- `TxTransfer()` (R138): rejected with only its event when the length exceeds the capacity (R131, R132;
D7: DESIGN CHOICE, log entry 18). -/
def txTransfer (P : Params) (s : State) : State :=
  if P.txBufCapacity < txLength P s.tx then s.record (.txRejected (txLength P s.tx))
  else txComplete P (txLength P s.tx) s

/-- `CsrReset(ch)` (R122). -/
def csrReset (P : Params) (ch : Chan) (s : State) : State :=
  s.setCsr ch (csrCleared P.layout (s.chan ch).csr)

/-- `CsrSetEnable(ch)` (R123): ENABLE is stored on either channel, and on TX one transfer runs. -/
def csrSetEnable (P : Params) (ch : Chan) (s : State) : State :=
  match ch with
  | .tx => txTransfer P (s.setCsr .tx (csrEnabled P.layout s.tx.csr))
  | .rx => s.setCsr .rx (csrEnabled P.layout s.rx.csr)

/-- `CsrSetSupdate(ch)` (R124). -/
def csrSetSupdate (P : Params) (ch : Chan) (s : State) : State :=
  s.setCsr ch (csrUpdateLatched P.layout (s.chan ch).csr)

/-- `CsrClrComplete(ch)` (R125). -/
def csrClrComplete (P : Params) (ch : Chan) (s : State) : State :=
  s.setCsr ch (csrAcknowledged P.layout (s.chan ch).csr)

/-- One step of a CSR write: the action runs when the value has the command bit (R121). -/
def onCommand (v mask : Word) (action : State → State) (s : State) : State :=
  if hits v mask then action s else s

/-- `CsrWrite(ch, v)` (R121): the four actions in their fixed order, each on the state the earlier ones left. -/
def csrWrite (P : Params) (ch : Chan) (v : Word) (s : State) : State :=
  onCommand v P.layout.cmdClrComplete (csrClrComplete P ch)
    (onCommand v P.layout.cmdSetSupdate (csrSetSupdate P ch)
      (onCommand v P.layout.cmdSetEnable (csrSetEnable P ch)
        (onCommand v P.layout.cmdReset (csrReset P ch) s)))

/-- Step 3 of the RX transfer (R144): the one bus write, and the padding's free bytes are used up (R143). -/
def rxStore (pkt buffer : List Byte) (s : State) : State :=
  (s.memWrite s.rx.base (rxBytes pkt buffer s.draws)).setDraws
    (s.draws + paddingDraws buffer (ceil32 pkt.length - pkt.length))

/-- Step 4 (R145): the saved window is the current base and the base plus the rounded length. -/
def rxSaveWindow (n : Nat) (s : State) : State :=
  s.setRx { s.rx with savedbase := s.rx.base, savedlimit := s.rx.base + BitVec.ofNat 32 n }

/-- Step 5 (R146, R147): with SUPDATE set the chained window becomes the current one; whether SUPDATE is then cleared
is the parameter `RX_SUPDATE_AUTOCLEAR` (D5: DESIGN CHOICE, log entry 16). -/
def rxAdoptChain (P : Params) (s : State) : State :=
  if hits s.rx.csr P.layout.supdate then
    s.setRx { s.rx with
      base := s.rx.chainbase
      limit := s.rx.chainlimit
      csr := if P.rxSupdateAutoclear then csrChainTaken P.layout s.rx.csr else s.rx.csr }
  else s

/-- Steps 6 and 7 (R148, R149). -/
def rxComplete (P : Params) (s : State) : State :=
  ((s.setRxStat statIdle).setCsr .rx (csrRxDone P.layout s.rx.csr)).assertIrq .rxDma

/-- The accepted part of `RxDeliver` (R151): steps 2 to 7 in order, with no check but the
gate (D16: DESIGN CHOICE, log entry 26). -/
def rxTransfer (P : Params) (pkt buffer : List Byte) (s : State) : State :=
  rxComplete P (rxAdoptChain P (rxSaveWindow (ceil32 pkt.length) (rxStore pkt buffer s)))

/-- `RxDeliver(pkt, pad)` (R141, R151). The delivery's own event stands ahead of what it triggers (DESIGN CHOICE, log entry 3). -/
def rxDeliver (P : Params) (pkt buffer : List Byte) (s : State) : State :=
  if gate s then rxTransfer P pkt buffer (s.record (.rxDeliver pkt .accepted))
  else s.record (.rxDeliver pkt .notAccepted)

end Sys2Proof.Machine
end

