-- ==== Sys2Proof/Machine/Csr.lean ====
section
/-! DEFINITION. The channel CSRs (R119, R120, R127, R128). A write is not stored: it triggers actions (R121). -/

namespace Sys2Proof.Machine

/-- `RL_TX_CSR` (R119): `result <- S.tx.csr`, state bits only; the read clears nothing. -/
def execRlTxCsr (s : State) : Host.Outcome State Fault Refusal :=
  .next (s.mmioRead 0x0110 .long s.tx.csr)

/-- `RL_RX_CSR` (R120): `result <- S.rx.csr`, state bits only; the read clears nothing. -/
def execRlRxCsr (s : State) : Host.Outcome State Fault Refusal :=
  .next (s.mmioRead 0x0150 .long s.rx.csr)

/-- `WL_TX_CSR` (R127): `CsrWrite(tx, v)` (R121). -/
def execWlTxCsr (v : Word) (s : State) : Host.Outcome State Fault Refusal :=
  .next (csrWrite params .tx v (s.mmioWrite 0x0110 .long v))

/-- `WL_RX_CSR` (R128): `CsrWrite(rx, v)` (R121). -/
def execWlRxCsr (v : Word) (s : State) : Host.Outcome State Fault Refusal :=
  .next (csrWrite params .rx v (s.mmioWrite 0x0150 .long v))

end Sys2Proof.Machine
end

