-- ==== Sys2Proof/Machine/Fallback.lean ====
section
/-! DEFINITION. The 2-byte stub (R113, R114) and the unmapped accesses (R115 to R118): a read answers 0, a write is ignored. -/

namespace Sys2Proof.Machine

/-- `RH` (R113): `result <- 0x0000` at any offset. -/
def execRh (off : Offset) (s : State) : Host.Outcome State Fault Refusal :=
  .next (s.mmioRead off .half 0)

/-- `WH` (R114): no state change at any offset. -/
def execWh (off : Offset) (v : Half) (s : State) : Host.Outcome State Fault Refusal :=
  .next (s.mmioWrite off .half (v.setWidth 32))

/-- `RB_UNMAPPED` (R115): `result <- 0`. -/
def execRbUnmapped (off : Offset) (s : State) : Host.Outcome State Fault Refusal :=
  .next (s.mmioRead off .byte 0)

/-- `WB_UNMAPPED` (R116): no state change. -/
def execWbUnmapped (off : Offset) (v : Byte) (s : State) : Host.Outcome State Fault Refusal :=
  .next (s.mmioWrite off .byte (v.setWidth 32))

/-- `RL_UNMAPPED` (R117): `result <- 0`. -/
def execRlUnmapped (off : Offset) (s : State) : Host.Outcome State Fault Refusal :=
  .next (s.mmioRead off .long 0)

/-- `WL_UNMAPPED` (R118): no state change. -/
def execWlUnmapped (off : Offset) (v : Word) (s : State) : Host.Outcome State Fault Refusal :=
  .next (s.mmioWrite off .long v)

end Sys2Proof.Machine
end

