-- ==== Sys2Proof/Machine/LongRead.lean ====
section
/-! DEFINITION. The long reads other than the CSRs (R91 to R101): the register, unchanged by the read (R69). -/

namespace Sys2Proof.Machine

/-- `RL_TX_SAVEDBASE` (R91): `result <- S.tx.savedbase`. -/
def execRlTxSavedbase (s : State) : Host.Outcome State Fault Refusal :=
  .next (s.mmioRead 0x4100 .long s.tx.savedbase)

/-- `RL_TX_SAVEDLIMIT` (R92): `result <- S.tx.savedlimit`. -/
def execRlTxSavedlimit (s : State) : Host.Outcome State Fault Refusal :=
  .next (s.mmioRead 0x4104 .long s.tx.savedlimit)

/-- `RL_TX_BASE` (R93): `result <- S.tx.base`. -/
def execRlTxBase (s : State) : Host.Outcome State Fault Refusal :=
  .next (s.mmioRead 0x4110 .long s.tx.base)

/-- `RL_TX_LIMIT` (R94): `result <- S.tx.limit`. -/
def execRlTxLimit (s : State) : Host.Outcome State Fault Refusal :=
  .next (s.mmioRead 0x4114 .long s.tx.limit)

/-- `RL_TX_BASEW` (R95): `result <- S.tx.basew`. -/
def execRlTxBasew (s : State) : Host.Outcome State Fault Refusal :=
  .next (s.mmioRead 0x4310 .long s.tx.basew)

/-- `RL_RX_SAVEDBASE` (R96): `result <- S.rx.savedbase`. -/
def execRlRxSavedbase (s : State) : Host.Outcome State Fault Refusal :=
  .next (s.mmioRead 0x4140 .long s.rx.savedbase)

/-- `RL_RX_SAVEDLIMIT` (R97): `result <- S.rx.savedlimit`. -/
def execRlRxSavedlimit (s : State) : Host.Outcome State Fault Refusal :=
  .next (s.mmioRead 0x4144 .long s.rx.savedlimit)

/-- `RL_RX_BASE` (R98): `result <- S.rx.base`. -/
def execRlRxBase (s : State) : Host.Outcome State Fault Refusal :=
  .next (s.mmioRead 0x4150 .long s.rx.base)

/-- `RL_RX_LIMIT` (R99): `result <- S.rx.limit`. -/
def execRlRxLimit (s : State) : Host.Outcome State Fault Refusal :=
  .next (s.mmioRead 0x4154 .long s.rx.limit)

/-- `RL_RX_CHAINBASE` (R100): `result <- S.rx.chainbase`. -/
def execRlRxChainbase (s : State) : Host.Outcome State Fault Refusal :=
  .next (s.mmioRead 0x4158 .long s.rx.chainbase)

/-- `RL_RX_CHAINLIMIT` (R101): `result <- S.rx.chainlimit`. -/
def execRlRxChainlimit (s : State) : Host.Outcome State Fault Refusal :=
  .next (s.mmioRead 0x415c .long s.rx.chainlimit)

end Sys2Proof.Machine
end

