-- ==== Sys2Proof/Machine/LongWrite.lean ====
section
/-! DEFINITION. The long writes other than the CSRs (R102 to R112). Each leaves every other field as it was (R69). -/

namespace Sys2Proof.Machine

/-- `WL_TX_SAVEDBASE` (R102): `S.tx.savedbase <- v`. -/
def execWlTxSavedbase (v : Word) (s : State) : Host.Outcome State Fault Refusal :=
  .next ((s.mmioWrite 0x4100 .long v).setTx { s.tx with savedbase := v })

/-- `WL_TX_SAVEDLIMIT` (R103): `S.tx.savedlimit <- v`. -/
def execWlTxSavedlimit (v : Word) (s : State) : Host.Outcome State Fault Refusal :=
  .next ((s.mmioWrite 0x4104 .long v).setTx { s.tx with savedlimit := v })

/-- `WL_TX_BASE` (R104): `S.tx.base <- v`. -/
def execWlTxBase (v : Word) (s : State) : Host.Outcome State Fault Refusal :=
  .next ((s.mmioWrite 0x4110 .long v).setTx { s.tx with base := v })

/-- `WL_TX_LIMIT` (R105): `S.tx.limit <- v`. -/
def execWlTxLimit (v : Word) (s : State) : Host.Outcome State Fault Refusal :=
  .next ((s.mmioWrite 0x4114 .long v).setTx { s.tx with limit := v })

/-- `WL_TX_BASEW` (R106): `S.tx.basew <- v; S.tx.base <- v` (D11; DESIGN CHOICE, log entry 13). -/
def execWlTxBasew (v : Word) (s : State) : Host.Outcome State Fault Refusal :=
  .next ((s.mmioWrite 0x4310 .long v).setTx { s.tx with basew := v, base := v })

/-- `WL_RX_SAVEDBASE` (R107): the register is read-only, so the value is discarded (D12; DESIGN CHOICE, log entry 14). -/
def execWlRxSavedbase (v : Word) (s : State) : Host.Outcome State Fault Refusal :=
  .next (s.mmioWrite 0x4140 .long v)

/-- `WL_RX_SAVEDLIMIT` (R108): the register is read-only, so the value is discarded (D12; DESIGN CHOICE, log entry 14). -/
def execWlRxSavedlimit (v : Word) (s : State) : Host.Outcome State Fault Refusal :=
  .next (s.mmioWrite 0x4144 .long v)

/-- `WL_RX_BASE` (R109): `S.rx.base <- v`. -/
def execWlRxBase (v : Word) (s : State) : Host.Outcome State Fault Refusal :=
  .next ((s.mmioWrite 0x4150 .long v).setRx { s.rx with base := v })

/-- `WL_RX_LIMIT` (R110): `S.rx.limit <- v`. -/
def execWlRxLimit (v : Word) (s : State) : Host.Outcome State Fault Refusal :=
  .next ((s.mmioWrite 0x4154 .long v).setRx { s.rx with limit := v })

/-- `WL_RX_CHAINBASE` (R111): `S.rx.chainbase <- v`. -/
def execWlRxChainbase (v : Word) (s : State) : Host.Outcome State Fault Refusal :=
  .next ((s.mmioWrite 0x4158 .long v).setRx { s.rx with chainbase := v })

/-- `WL_RX_CHAINLIMIT` (R112): `S.rx.chainlimit <- v`. -/
def execWlRxChainlimit (v : Word) (s : State) : Host.Outcome State Fault Refusal :=
  .next ((s.mmioWrite 0x415c .long v).setRx { s.rx with chainlimit := v })

end Sys2Proof.Machine
end

