-- ==== Sys2Proof/Machine/MacWrite.lean ====
section
/-! DEFINITION. The MAC byte writes (R84 to R90). Only byte 5 applies the default-if-unset action. -/

namespace Sys2Proof.Machine

/-- `WB_MAC0` (R84): `S.mac[0] <- v`. -/
def execWbMac0 (v : Byte) (s : State) : Host.Outcome State Fault Refusal :=
  .next ((s.mmioWrite 0x6008 .byte (v.setWidth 32)).setMac { s.mac with b0 := v })

/-- `WB_MAC1` (R85): `S.mac[1] <- v`. -/
def execWbMac1 (v : Byte) (s : State) : Host.Outcome State Fault Refusal :=
  .next ((s.mmioWrite 0x6009 .byte (v.setWidth 32)).setMac { s.mac with b1 := v })

/-- `WB_MAC2` (R86): `S.mac[2] <- v`. -/
def execWbMac2 (v : Byte) (s : State) : Host.Outcome State Fault Refusal :=
  .next ((s.mmioWrite 0x600a .byte (v.setWidth 32)).setMac { s.mac with b2 := v })

/-- `WB_MAC3` (R87): `S.mac[3] <- v`. -/
def execWbMac3 (v : Byte) (s : State) : Host.Outcome State Fault Refusal :=
  .next ((s.mmioWrite 0x600b .byte (v.setWidth 32)).setMac { s.mac with b3 := v })

/-- `WB_MAC4` (R88): `S.mac[4] <- v`. -/
def execWbMac4 (v : Byte) (s : State) : Host.Outcome State Fault Refusal :=
  .next ((s.mmioWrite 0x600c .byte (v.setWidth 32)).setMac { s.mac with b4 := v })

/-- `WB_MAC5` (R89): `S.mac[5] <- v; MacDefaultIfUnset()` (R90). -/
def execWbMac5 (v : Byte) (s : State) : Host.Outcome State Fault Refusal :=
  .next (((s.mmioWrite 0x600d .byte (v.setWidth 32)).setMac { s.mac with b5 := v }).macDefaultIfUnset)

end Sys2Proof.Machine
end

