-- ==== Sys2Proof/Machine/Net.lean ====
section
/-! DEFINITION. The network transactions (R140, R151). -/

namespace Sys2Proof.Machine

/-- `RX_DELIVER` (R151): a frame longer than `MAX_RX_FRAME` is refused, whatever the gate (DESIGN CHOICE, log entry 15); otherwise
`RxDeliver(pkt, pad)`. A closed gate changes nothing (D19: DESIGN CHOICE, log entry 26). -/
def execRxDeliver (pkt buffer : List Byte) (s : State) : Host.Outcome State Fault Refusal :=
  if params.maxRxFrame < pkt.length then .refused (.frameTooLong pkt.length)
  else .next (rxDeliver params pkt buffer s)

/-- `CAN_ACCEPT` (R140): `result <- Gate(S)`, with no side effect. -/
def execCanAccept (s : State) : Host.Outcome State Fault Refusal :=
  .next (s.record (.canAccept (gate s)))

end Sys2Proof.Machine
end

