-- ==== Sys2Proof/Machine/Dispatch.lean ====
section
/-! DEFINITION. One arm per row of the opcode table (R64), each a direct call of its meaning. -/

namespace Sys2Proof.Machine

def exec (i : Instr) (s : State) : Host.Outcome State Fault Refusal :=
  match i with
  | .rbTxStat => Sys2Proof.Machine.execRbTxStat s
  | .rbTxMask => Sys2Proof.Machine.execRbTxMask s
  | .rbRxStat => Sys2Proof.Machine.execRbRxStat s
  | .rbRxMask => Sys2Proof.Machine.execRbRxMask s
  | .rbTxMode => Sys2Proof.Machine.execRbTxMode s
  | .rbRxMode => Sys2Proof.Machine.execRbRxMode s
  | .rbRstMode => Sys2Proof.Machine.execRbRstMode s
  | .wbTxStat v => Sys2Proof.Machine.execWbTxStat v s
  | .wbTxMask v => Sys2Proof.Machine.execWbTxMask v s
  | .wbRxStat v => Sys2Proof.Machine.execWbRxStat v s
  | .wbRxMask v => Sys2Proof.Machine.execWbRxMask v s
  | .wbTxMode v => Sys2Proof.Machine.execWbTxMode v s
  | .wbRxMode v => Sys2Proof.Machine.execWbRxMode v s
  | .wbRstMode v => Sys2Proof.Machine.execWbRstMode v s
  | .wbMac0 v => Sys2Proof.Machine.execWbMac0 v s
  | .wbMac1 v => Sys2Proof.Machine.execWbMac1 v s
  | .wbMac2 v => Sys2Proof.Machine.execWbMac2 v s
  | .wbMac3 v => Sys2Proof.Machine.execWbMac3 v s
  | .wbMac4 v => Sys2Proof.Machine.execWbMac4 v s
  | .wbMac5 v => Sys2Proof.Machine.execWbMac5 v s
  | .rlTxCsr => Sys2Proof.Machine.execRlTxCsr s
  | .rlRxCsr => Sys2Proof.Machine.execRlRxCsr s
  | .rlTxSavedbase => Sys2Proof.Machine.execRlTxSavedbase s
  | .rlTxSavedlimit => Sys2Proof.Machine.execRlTxSavedlimit s
  | .rlTxBase => Sys2Proof.Machine.execRlTxBase s
  | .rlTxLimit => Sys2Proof.Machine.execRlTxLimit s
  | .rlTxBasew => Sys2Proof.Machine.execRlTxBasew s
  | .rlRxSavedbase => Sys2Proof.Machine.execRlRxSavedbase s
  | .rlRxSavedlimit => Sys2Proof.Machine.execRlRxSavedlimit s
  | .rlRxBase => Sys2Proof.Machine.execRlRxBase s
  | .rlRxLimit => Sys2Proof.Machine.execRlRxLimit s
  | .rlRxChainbase => Sys2Proof.Machine.execRlRxChainbase s
  | .rlRxChainlimit => Sys2Proof.Machine.execRlRxChainlimit s
  | .wlTxCsr v => Sys2Proof.Machine.execWlTxCsr v s
  | .wlRxCsr v => Sys2Proof.Machine.execWlRxCsr v s
  | .wlTxSavedbase v => Sys2Proof.Machine.execWlTxSavedbase v s
  | .wlTxSavedlimit v => Sys2Proof.Machine.execWlTxSavedlimit v s
  | .wlTxBase v => Sys2Proof.Machine.execWlTxBase v s
  | .wlTxLimit v => Sys2Proof.Machine.execWlTxLimit v s
  | .wlTxBasew v => Sys2Proof.Machine.execWlTxBasew v s
  | .wlRxSavedbase v => Sys2Proof.Machine.execWlRxSavedbase v s
  | .wlRxSavedlimit v => Sys2Proof.Machine.execWlRxSavedlimit v s
  | .wlRxBase v => Sys2Proof.Machine.execWlRxBase v s
  | .wlRxLimit v => Sys2Proof.Machine.execWlRxLimit v s
  | .wlRxChainbase v => Sys2Proof.Machine.execWlRxChainbase v s
  | .wlRxChainlimit v => Sys2Proof.Machine.execWlRxChainlimit v s
  | .rxDeliver pkt buffer => Sys2Proof.Machine.execRxDeliver pkt buffer s
  | .canAccept => Sys2Proof.Machine.execCanAccept s
  | .rh off => Sys2Proof.Machine.execRh off s
  | .wh off v => Sys2Proof.Machine.execWh off v s
  | .rbUnmapped off => Sys2Proof.Machine.execRbUnmapped off s
  | .wbUnmapped off v => Sys2Proof.Machine.execWbUnmapped off v s
  | .rlUnmapped off => Sys2Proof.Machine.execRlUnmapped off s
  | .wlUnmapped off v => Sys2Proof.Machine.execWlUnmapped off v s

end Sys2Proof.Machine
end

