-- ==== Sys2Proof/Machine/Deliver.lean ====
section
/-! DEFINITION. What one delivered input does (R13, R54): a transaction is decoded and run (R63), a physical access is
first normalised (R56), another agent's store, the sink's lowering of a line and a platform reset act outside the
block's register rules. -/

namespace Sys2Proof.Machine

/-- The refusal of a word or access that is no transaction (R154, R155). -/
def refusalOf : DecodeError → Refusal
  | .outOfWindow win p => .outOfWindow win p
  | .badWidth width => .badWidth width
  | .reservedEncoding word => .reservedEncoding word

/-- Decode a transaction and run it (R63). -/
def runTransaction (t : Transaction) (s : State) : Host.Outcome State Fault Refusal :=
  match decode t.word t.operand with
  | .ok i => exec i s
  | .error e => .refused (refusalOf e)

/-- A physical access becomes the transaction at its logical offset (R56, R57). -/
def runPhysical (win : Window) (p width : Nat) (write : Bool) (value : Nat) (s : State) :
    Host.Outcome State Fault Refusal :=
  match normalise win p width write with
  | .ok word => runTransaction (carrying word value) s
  | .error e => .refused (refusalOf e)

/-- One delivered input. -/
def deliver (d : Delivery) (s : State) : Host.Outcome State Fault Refusal :=
  match d with
  | .transaction t => runTransaction t s
  | .physical win p width write value => runPhysical win p width write value s
  | .busStore addr bytes => .next (s.setMem (s.mem.storeBytes addr bytes))
  | .deassert line => .next (s.deassertIrq line)
  | .platformReset => .next s.recreate

/-- The next input and the state without it, if one waits. -/
def State.takeInput (s : State) : Option (Delivery × State) :=
  match s.pending with
  | [] => none
  | d :: rest => some (d, s.setPending rest)

end Sys2Proof.Machine
end

