-- ==== Sys2Proof/Machine/Step.lean ====
section
/-! DEFINITION. One step: the complete response to the next delivered input (R13, R14, R46). -/

namespace Sys2Proof.Machine

/-- One step. With no input waiting the device takes no step of its own, so nothing changes (R13; DESIGN CHOICE, log entry 1). -/
def step (s : State) : Host.Outcome State Fault Refusal :=
  match s.takeInput with
  | none => .next s
  | some (d, rest) => deliver d rest

/-- `s` with the transaction word `w`, beside it a zero operand, as the next input (DESIGN CHOICE, log entry 1). Its bits are
numbered as R61 numbers them; a row has 32, so `nbits` adds nothing. -/
def State.withFetchWord (s : State) (_nbits w : Nat) : State :=
  s.setPending (.transaction (bare (BitVec.ofNat 32 w)) :: s.pending)

end Sys2Proof.Machine
end

