-- ==== Sys2Proof/Safety.lean ====
section
/-! DEFINITION. What the spec promises of every reachable state, as predicates on one state, and what a step that
does not stop means. Statements over all states take these as premises where they could fail only in states no
run reaches. -/

namespace Sys2Proof.Machine

/-- R17: a CSR stores the three state bits and nothing else. -/
def State.csrClean (s : State) : Prop :=
  s.tx.csr &&& ~~~params.layout.stateMask = 0 ∧ s.rx.csr &&& ~~~params.layout.stateMask = 0

/-- R24, R158: the lines IRQ_TX and IRQ_RX are present but inert. -/
def State.inertLines (s : State) : Prop := s.irq.tx = false ∧ s.irq.rx = false

/-- R30: the fields without an offset keep their reset value. -/
def State.unmappedFieldsAtReset (s : State) : Prop :=
  s.tx.chainbase = 0 ∧ s.tx.chainlimit = 0 ∧ s.rx.basew = 0

/-- R181: no status byte ever holds 0xFF. -/
def State.statusNotAck (s : State) : Prop := s.txStat ≠ statAck ∧ s.rxStat ≠ statAck

/-- The level of a line (R24). -/
def IrqLevels.level (l : IrqLevels) : IrqLine → Bool
  | .tx => l.tx
  | .rx => l.rx
  | .txDma => l.txDma
  | .rxDma => l.rxDma

/-- R24, R160: a line is at level 1 exactly when the history since creation holds an assertion of it. -/
def State.levelsRecorded (s : State) : Prop :=
  ∀ line, s.irq.level line = true ↔ Event.irq line ∈ s.history

/-- The invariant of every reachable state. -/
structure State.Inv (s : State) : Prop where
  memory    : s.mem.wf
  csr       : s.csrClean
  inert     : s.inertLines
  unmapped  : s.unmappedFieldsAtReset
  status    : s.statusNotAck
  levels    : s.levelsRecorded

/-- A step is safe when it answers a next state. -/
def Safe (s : State) : Prop := ∃ t, step s = .next t

end Sys2Proof.Machine
end

