-- ==== Sys2Proof/Certificates/Slice0/Obligations.lean ====
section
/-! DEFINITION. The statements for the provers. Each docstring names the rules of spec/ it formalises; where a clause
rests on a decision of the spec's own or on a log entry, the docstring says so. -/

namespace Sys2Proof.Claims

open Sys2Proof.Machine

/-- `s` with these events appended to its history and everything else as it was. -/
def logged (s : State) (es : List Event) : State := { s with history := s.history ++ es }

/-- Apply a function to the next state of an outcome. -/
def mapNext (f : State → State) : Host.Outcome State Fault Refusal → Host.Outcome State Fault Refusal
  | .next t => .next (f t)
  | .fault r => .fault r
  | .refused r => .refused r

/-- The line an event asserts, if it asserts one. -/
def lineOf : Event → Option IrqLine
  | .irq line => some line
  | _ => none

/-- The event of a delivered frame (R11). -/
def isDelivery : Event → Bool
  | .rxDeliver _ _ => true
  | _ => false

/-- `d` is what the four actions of a CSR write of `v` leave of the CSR value `c` under the layout `L` (R122 to R125):
each state bit as the command bits and its old value say, every bit outside the state mask as it was. -/
def csrFollows (L : CsrLayout) (v c d : Word) : Prop :=
  hits d L.enable = (hits v L.cmdSetEnable || (hits c L.enable && !hits v L.cmdReset)) ∧
  hits d L.supdate = (hits v L.cmdSetSupdate || (hits c L.supdate && !hits v L.cmdReset)) ∧
  hits d L.complete = (hits c L.complete && !hits v L.cmdReset && !hits v L.cmdClrComplete) ∧
  d &&& ~~~L.stateMask = c &&& ~~~L.stateMask

/-- A CSR value from the bits outside the three state bits and the state bits ENABLE (24), SUPDATE (25) and COMPLETE
(27) of the default layout (R18, D3). -/
def csrBits (rest : Word) (enable supdate complete : Bool) : Word :=
  rest ||| (if enable then 0x01000000 else 0) ||| (if supdate then 0x02000000 else 0)
    ||| (if complete then 0x08000000 else 0)

/-- `s` with the two mask bytes replaced. -/
def withMasks (m n : Byte) (s : State) : State := { s with txMask := m, rxMask := n }

/-- `s` with the two mode bytes replaced. -/
def withModes (m n : Byte) (s : State) : State := { s with txMode := m, rxMode := n }

/-- The fields of a transaction word as numbers (R61). -/
def rsvOf (t : Word) : Nat := t.toNat / 2 ^ 22
def kindOf (t : Word) : Nat := t.toNat / 2 ^ 20 % 4
def widthFieldOf (t : Word) : Nat := t.toNat / 2 ^ 16 % 8

/-- A TX CSR write whose value has the SETENABLE command bit and whose transfer is within the capacity. -/
def txCompletes (v : Word) (s : State) : Bool :=
  hits v params.layout.cmdSetEnable && decide (txLength params s.tx ≤ params.txBufCapacity)

end Sys2Proof.Claims

open Sys2Proof Sys2Proof.Machine Sys2Proof.Claims

/-! ## Encoding -/

/-- R63, R64 (tier 1): words written out from the table decode to the transactions they stand for. The transaction
word is the spec's own encoding (D1). -/
def Obligations.TableWordsOfEachFamilyDecode : Prop :=
  decode 0x00016000 ⟨0, [], []⟩ = .ok .rbTxStat ∧
  decode 0x00096002 ⟨0x1ff, [], []⟩ = .ok (.wbRxStat 0xff) ∧
  decode 0x0009600d ⟨0x55, [], []⟩ = .ok (.wbMac5 0x55) ∧
  decode 0x00044310 ⟨0, [], []⟩ = .ok .rlTxBasew ∧
  decode 0x000c4158 ⟨0x3000, [], []⟩ = .ok (.wlRxChainbase 0x3000) ∧
  decode 0x000c0110 ⟨0x00010000, [], []⟩ = .ok (.wlTxCsr 0x00010000) ∧
  decode 0x00100000 ⟨0, [1, 2], [3]⟩ = .ok (.rxDeliver [1, 2] [3]) ∧
  decode 0x00200000 ⟨0, [], []⟩ = .ok .canAccept ∧
  decode 0x00026000 ⟨0, [], []⟩ = .ok (.rh 0x6000) ∧
  decode 0x00010110 ⟨0, [], []⟩ = .ok (.rbUnmapped 0x0110)

/-- R61, R63, R64 (tier 3): the decoder reads back every well-formed instruction from the word and operand the encoder
lays out for it, with every operand. The transaction word is the spec's own encoding (D1). -/
def Obligations.DecodeReadsBackEncode : Prop :=
  ∀ i : Instr, i.wellFormed = true → decode (encode i).word (encode i).operand = .ok i

/-- R63, R115 to R118 (tier 2): what the decoder answers is well formed, and the word it came from is the word the
encoder lays out, so no two words of the table share a meaning (D1). -/
def Obligations.DecodedInstructionsEncodeToTheirWord : Prop :=
  ∀ (t : Word) (o : Operand) (i : Instr), decode t o = .ok i → i.wellFormed = true ∧ (encode i).word = t

/-- R63, R65 (tier 2): the word alone decides whether it decodes, by the fields of R61 read as numbers, and a refused
word is refused by the name R63 gives it (D1, D21). -/
def Obligations.DecodeRefusesExactlyTheReservedWords : Prop :=
  ∀ (t : Word) (o : Operand),
    ((rsvOf t ≠ 0 ∨ kindOf t = 3) → decode t o = .error (.reservedEncoding t)) ∧
    (rsvOf t = 0 → kindOf t = 0 → widthFieldOf t ∉ [1, 2, 4] → decode t o = .error (.badWidth (widthFieldOf t))) ∧
    (rsvOf t = 0 → kindOf t ∈ [1, 2] → t.toNat % 2 ^ 20 ≠ 0 → decode t o = .error (.reservedEncoding t)) ∧
    (rsvOf t = 0 → kindOf t = 0 → widthFieldOf t ∈ [1, 2, 4] → ∃ i, decode t o = .ok i) ∧
    (rsvOf t = 0 → kindOf t ∈ [1, 2] → t.toNat % 2 ^ 20 = 0 → ∃ i, decode t o = .ok i)

/-! ## The step -/

/-- R14, R46 (tier 1): when the next input is a transaction whose word decodes to `i`, the step is exec of `i` on the
state without that input, and nothing else. The list of inputs is the model's own (log entry 1). -/
def Obligations.StepRunsTheDecodedInstruction : Prop :=
  ∀ (s : State) (t : Transaction) (rest : List Delivery) (i : Instr),
    s.pending = .transaction t :: rest → decode t.word t.operand = .ok i →
      step s = exec i { s with pending := rest }

/-- R55 to R57, R59, R61 (tier 2): an access of width 1, 2 or 4 inside its window is the transaction at its logical
offset, `(p + 0x6000) mod 2^16` through window A and `p mod 2^16` through window B, whichever window it came
through. The window bases are the spec's decision D9 (log entry 10), the word its encoding D1. -/
def Obligations.PhysicalAccessIsTheLogicalTransaction : Prop :=
  ∀ (s : State) (win : Window) (p width : Nat) (write : Bool) (value : Nat) (rest : List Delivery) (word : Word),
    s.pending = .physical win p width write value :: rest →
    width ∈ [1, 2, 4] →
    p + width ≤ (match win with | .a => 0x1000 | .b => 0x4400) →
    word.toNat = (match win with | .a => (p + 0x6000) % 2 ^ 16 | .b => p % 2 ^ 16)
      + width * 2 ^ 16 + (if write then 2 ^ 19 else 0) →
      step s = step { s with pending := .transaction ⟨word, ⟨value, [], []⟩⟩ :: rest }

/-- R58, R59, R63, R151, R154, R155 (tier 2): each anomaly the spec refuses stops the step under its own name and
with the value R154 records. The refusals are the spec's decision D21, the frame limit D30. Two orders are the model's
choices: an access both beyond its window and of a bad width is named OutOfWindow (log entry 21), and an overlong frame
is refused whatever the gate (log entry 15). -/
def Obligations.NamedAnomaliesAreRefused : Prop :=
  (∀ (s : State) (win : Window) (p width : Nat) (write : Bool) (value : Nat) (rest : List Delivery),
    s.pending = .physical win p width write value :: rest →
    (match win with | .a => 0x1000 | .b => 0x4400) < p + width →
      step s = .refused (.outOfWindow win p)) ∧
  (∀ (s : State) (win : Window) (p width : Nat) (write : Bool) (value : Nat) (rest : List Delivery),
    s.pending = .physical win p width write value :: rest →
    p + width ≤ (match win with | .a => 0x1000 | .b => 0x4400) → width ∉ [1, 2, 4] →
      step s = .refused (.badWidth width)) ∧
  (∀ (s : State) (t : Transaction) (rest : List Delivery),
    s.pending = .transaction t :: rest →
    rsvOf t.word ≠ 0 ∨ kindOf t.word = 3 ∨ (kindOf t.word ∈ [1, 2] ∧ t.word.toNat % 2 ^ 20 ≠ 0) →
      step s = .refused (.reservedEncoding t.word)) ∧
  (∀ (s : State) (t : Transaction) (rest : List Delivery),
    s.pending = .transaction t :: rest →
    rsvOf t.word = 0 → kindOf t.word = 0 → widthFieldOf t.word ∉ [1, 2, 4] →
      step s = .refused (.badWidth (widthFieldOf t.word))) ∧
  (∀ (s : State) (t : Transaction) (rest : List Delivery),
    s.pending = .transaction t :: rest →
    t.word = 0x00100000 → 2 ^ 32 - 32 < t.operand.frame.length →
      step s = .refused (.frameTooLong t.operand.frame.length))

/-- R153, R154 (tier 2): no step faults, and a step that is refused met one of the five anomalies R154 refuses; every
other step answers a next state (D21). -/
def Obligations.OnlyNamedAnomaliesStopARun : Prop :=
  ∀ s : State,
    (∃ t, step s = .next t) ∨
    (∃ win p width write value rest, s.pending = .physical win p width write value :: rest ∧
      ((match win with | .a => 0x1000 | .b => 0x4400) < p + width ∨ width ∉ [1, 2, 4])) ∨
    (∃ t rest, s.pending = .transaction t :: rest ∧
      (rsvOf t.word ≠ 0 ∨ kindOf t.word = 3 ∨ (kindOf t.word ∈ [1, 2] ∧ t.word.toNat % 2 ^ 20 ≠ 0) ∨
        (kindOf t.word = 0 ∧ widthFieldOf t.word ∉ [1, 2, 4]) ∨
        (t.word = 0x00100000 ∧ 2 ^ 32 - 32 < t.operand.frame.length)))

/-- R13, R32, R50, R54, R173 (tier 1): with no input nothing changes; another agent's store changes only bus memory;
the sink's lowering of a line lowers that line as the sink holds it and changes nothing else, the levels `S.irq` among
what stays; a platform reset gives the state of R171 and leaves bus memory and the sink's lines alone. The input kinds
and the sink's lines are the model's own (log entries 1, 6 and 31), the re-creation the spec's decision D15 (what it
keeps: log entry 29). -/
def Obligations.InputsOutsideTheBlock : Prop :=
  (∀ s : State, s.pending = [] → step s = .next s) ∧
  (∀ (s : State) (addr : Word) (bytes : List Byte) (rest : List Delivery),
    s.pending = .busStore addr bytes :: rest →
      step s = .next { s with pending := rest, mem := s.mem.storeBytes addr bytes }) ∧
  (∀ (s : State) (line : IrqLine) (rest : List Delivery), s.pending = .deassert line :: rest →
      step s = .next { s with pending := rest, sinkLines := (match line with
        | .tx => { s.sinkLines with tx := false }
        | .rx => { s.sinkLines with rx := false }
        | .txDma => { s.sinkLines with txDma := false }
        | .rxDma => { s.sinkLines with rxDma := false }) }) ∧
  (∀ (s : State) (rest : List Delivery), s.pending = .platformReset :: rest →
      step s = .next { State.reset with pending := rest, mem := s.mem, sinkLines := s.sinkLines, draws := s.draws })

/-! ## Byte registers -/

/-- R70 to R76 (tier 1): a byte read answers its register and changes nothing else (D22). -/
def Obligations.ByteReadsAnswerTheirRegister : Prop :=
  ∀ s : State,
    exec .rbTxStat s = .next (logged s [.mmioRead 0x6000 .byte (s.txStat.setWidth 32)]) ∧
    exec .rbTxMask s = .next (logged s [.mmioRead 0x6001 .byte (s.txMask.setWidth 32)]) ∧
    exec .rbRxStat s = .next (logged s [.mmioRead 0x6002 .byte (s.rxStat.setWidth 32)]) ∧
    exec .rbRxMask s = .next (logged s [.mmioRead 0x6003 .byte (s.rxMask.setWidth 32)]) ∧
    exec .rbTxMode s = .next (logged s [.mmioRead 0x6004 .byte (s.txMode.setWidth 32)]) ∧
    exec .rbRxMode s = .next (logged s [.mmioRead 0x6005 .byte (s.rxMode.setWidth 32)]) ∧
    exec .rbRstMode s = .next (logged s [.mmioRead 0x6006 .byte (s.rstMode.setWidth 32)])

/-- R77, R79, R83 (tier 1): a status write of 0xFF stores 0x80 for every prior value and any other value is stored
verbatim; a reset-mode write is stored verbatim; nothing else changes, so no channel is reset, COMPLETE stays and no
line is lowered. The words are those the three rules give. -/
def Obligations.StatusAndResetModeWrites : Prop :=
  (∀ o : Operand, decode 0x00096000 o = .ok (.wbTxStat (BitVec.ofNat 8 o.value)) ∧
    decode 0x00096002 o = .ok (.wbRxStat (BitVec.ofNat 8 o.value)) ∧
    decode 0x00096006 o = .ok (.wbRstMode (BitVec.ofNat 8 o.value))) ∧
  ∀ (s : State) (v : Byte),
    exec (.wbTxStat v) s = .next { logged s [.mmioWrite 0x6000 .byte (v.setWidth 32)] with
      txStat := if v = 0xff then 0x80 else v } ∧
    exec (.wbRxStat v) s = .next { logged s [.mmioWrite 0x6002 .byte (v.setWidth 32)] with
      rxStat := if v = 0xff then 0x80 else v } ∧
    exec (.wbRstMode v) s = .next { logged s [.mmioWrite 0x6006 .byte (v.setWidth 32)] with rstMode := v }

/-- R21 (tier 2): the mask bytes are stored and read back verbatim, and no rule reads them: whatever the masks hold,
every other transaction does the same and leaves them alone. -/
def Obligations.MasksAreStoredAndGateNothing : Prop :=
  (∀ (s : State) (v : Byte),
    exec (.wbTxMask v) s = .next { logged s [.mmioWrite 0x6001 .byte (v.setWidth 32)] with txMask := v } ∧
    exec (.wbRxMask v) s = .next { logged s [.mmioWrite 0x6003 .byte (v.setWidth 32)] with rxMask := v } ∧
    exec .rbTxMask s = .next (logged s [.mmioRead 0x6001 .byte (s.txMask.setWidth 32)]) ∧
    exec .rbRxMask s = .next (logged s [.mmioRead 0x6003 .byte (s.rxMask.setWidth 32)])) ∧
  ∀ (i : Instr) (m n : Byte) (s : State),
    (∀ v, i ≠ .wbTxMask v) → (∀ v, i ≠ .wbRxMask v) → i ≠ .rbTxMask → i ≠ .rbRxMask →
      exec i (withMasks m n s) = mapNext (withMasks m n) (exec i s)

/-- R22 (tier 2): the mode bytes are stored and read back verbatim; a delivery is accepted exactly when bits 1:0 of RX
mode are not both 0; no rule reads TX mode or bits 7:2 of RX mode: replacing them changes no other transaction; and no
rule but the gate of a delivery or a gate query reads bits 1:0 of RX mode: replacing both mode bytes by any others
changes no transaction that is neither of the two nor an access to the modes. -/
def Obligations.ModesAreStoredAndOnlyTheGateReadsThem : Prop :=
  (∀ (s : State) (v : Byte),
    exec (.wbTxMode v) s = .next { logged s [.mmioWrite 0x6004 .byte (v.setWidth 32)] with txMode := v } ∧
    exec (.wbRxMode v) s = .next { logged s [.mmioWrite 0x6005 .byte (v.setWidth 32)] with rxMode := v } ∧
    exec .rbTxMode s = .next (logged s [.mmioRead 0x6004 .byte (s.txMode.setWidth 32)]) ∧
    exec .rbRxMode s = .next (logged s [.mmioRead 0x6005 .byte (s.rxMode.setWidth 32)]) ∧
    (gate s = true ↔ s.rxMode.getLsbD 0 = true ∨ s.rxMode.getLsbD 1 = true)) ∧
  (∀ (pkt buffer : List Byte) (s t : State), exec (.rxDeliver pkt buffer) s = .next t →
    ∃ new, t.history = s.history ++ new ∧
      new.filter isDelivery = [.rxDeliver pkt (if gate s then .accepted else .notAccepted)]) ∧
  ∀ (i : Instr) (m n : Byte) (s : State),
    ((n.getLsbD 0 = s.rxMode.getLsbD 0 ∧ n.getLsbD 1 = s.rxMode.getLsbD 1) ∨
      ((∀ pkt buffer, i ≠ .rxDeliver pkt buffer) ∧ i ≠ .canAccept)) →
    (∀ v, i ≠ .wbTxMode v) → (∀ v, i ≠ .wbRxMode v) → i ≠ .rbTxMode → i ≠ .rbRxMode →
      exec i (withModes m n s) = mapNext (withModes m n) (exec i s)

/-- R20 (tier 2): what every transaction does to the two status bytes: a guest write of 0xFF stores 0x80 and any other
value is stored verbatim, a completed TX transfer and an accepted delivery store 0x80, and nothing else, no read
among it, changes a status byte. -/
def Obligations.StatusChangesOnlyByGuestWriteOrCompletion : Prop :=
  ∀ (i : Instr) (s t : State), exec i s = .next t →
    t.txStat = (match i with
      | .wbTxStat v => if v = 0xff then 0x80 else v
      | .wlTxCsr v => if txCompletes v s then 0x80 else s.txStat
      | _ => s.txStat) ∧
    t.rxStat = (match i with
      | .wbRxStat v => if v = 0xff then 0x80 else v
      | .rxDeliver _ _ => if gate s then 0x80 else s.rxStat
      | _ => s.rxStat)

/-! ## The MAC -/

/-- R84 to R88 (tier 1): a write of MAC byte 0 to 4 stores that byte and changes nothing else; it never applies the
default. -/
def Obligations.MacByteWritesStoreOneByte : Prop :=
  ∀ (s : State) (v : Byte),
    exec (.wbMac0 v) s = .next { logged s [.mmioWrite 0x6008 .byte (v.setWidth 32)] with
      mac := { s.mac with b0 := v } } ∧
    exec (.wbMac1 v) s = .next { logged s [.mmioWrite 0x6009 .byte (v.setWidth 32)] with
      mac := { s.mac with b1 := v } } ∧
    exec (.wbMac2 v) s = .next { logged s [.mmioWrite 0x600a .byte (v.setWidth 32)] with
      mac := { s.mac with b2 := v } } ∧
    exec (.wbMac3 v) s = .next { logged s [.mmioWrite 0x600b .byte (v.setWidth 32)] with
      mac := { s.mac with b3 := v } } ∧
    exec (.wbMac4 v) s = .next { logged s [.mmioWrite 0x600c .byte (v.setWidth 32)] with
      mac := { s.mac with b4 := v } }

/-- R89, R90 (tier 2): a write of MAC byte 5 stores it; if all six bytes are then 0 the address becomes six bytes the
host supplies, whatever they are (free bytes, log entry 8), else the address stays as written. That "unset" means all
zero is the spec's decision D13 (log entry 12). -/
def Obligations.MacByteFiveAppliesTheDefaultWhenUnset : Prop :=
  ∀ (s : State) (v : Byte),
    (¬(s.mac.b0 = 0 ∧ s.mac.b1 = 0 ∧ s.mac.b2 = 0 ∧ s.mac.b3 = 0 ∧ s.mac.b4 = 0 ∧ v = 0) →
      exec (.wbMac5 v) s = .next { logged s [.mmioWrite 0x600d .byte (v.setWidth 32)] with
        mac := { s.mac with b5 := v } }) ∧
    (s.mac.b0 = 0 ∧ s.mac.b1 = 0 ∧ s.mac.b2 = 0 ∧ s.mac.b3 = 0 ∧ s.mac.b4 = 0 ∧ v = 0 →
      exec (.wbMac5 v) s = .next { logged s [.mmioWrite 0x600d .byte (v.setWidth 32)] with
        mac := ⟨Config.freeByte s.draws, Config.freeByte (s.draws + 1), Config.freeByte (s.draws + 2),
          Config.freeByte (s.draws + 3), Config.freeByte (s.draws + 4), Config.freeByte (s.draws + 5)⟩
        draws := s.draws + 6 })

/-! ## Long registers -/

/-- R91 to R101, R119, R120 (tier 1): a long read answers its register and changes nothing else; 0x4310 answers the
latch, not the base (D11, D22). -/
def Obligations.LongReadsAnswerTheirRegister : Prop :=
  ∀ s : State,
    exec .rlTxCsr s = .next (logged s [.mmioRead 0x0110 .long s.tx.csr]) ∧
    exec .rlRxCsr s = .next (logged s [.mmioRead 0x0150 .long s.rx.csr]) ∧
    exec .rlTxSavedbase s = .next (logged s [.mmioRead 0x4100 .long s.tx.savedbase]) ∧
    exec .rlTxSavedlimit s = .next (logged s [.mmioRead 0x4104 .long s.tx.savedlimit]) ∧
    exec .rlTxBase s = .next (logged s [.mmioRead 0x4110 .long s.tx.base]) ∧
    exec .rlTxLimit s = .next (logged s [.mmioRead 0x4114 .long s.tx.limit]) ∧
    exec .rlTxBasew s = .next (logged s [.mmioRead 0x4310 .long s.tx.basew]) ∧
    exec .rlRxSavedbase s = .next (logged s [.mmioRead 0x4140 .long s.rx.savedbase]) ∧
    exec .rlRxSavedlimit s = .next (logged s [.mmioRead 0x4144 .long s.rx.savedlimit]) ∧
    exec .rlRxBase s = .next (logged s [.mmioRead 0x4150 .long s.rx.base]) ∧
    exec .rlRxLimit s = .next (logged s [.mmioRead 0x4154 .long s.rx.limit]) ∧
    exec .rlRxChainbase s = .next (logged s [.mmioRead 0x4158 .long s.rx.chainbase]) ∧
    exec .rlRxChainlimit s = .next (logged s [.mmioRead 0x415c .long s.rx.chainlimit])

/-- R102 to R105, R109 to R112 (tier 1): a long write stores all 32 bits in its register and changes nothing else. -/
def Obligations.LongWritesStoreTheirRegister : Prop :=
  ∀ (s : State) (v : Word),
    exec (.wlTxSavedbase v) s = .next { logged s [.mmioWrite 0x4100 .long v] with
      tx := { s.tx with savedbase := v } } ∧
    exec (.wlTxSavedlimit v) s = .next { logged s [.mmioWrite 0x4104 .long v] with
      tx := { s.tx with savedlimit := v } } ∧
    exec (.wlTxBase v) s = .next { logged s [.mmioWrite 0x4110 .long v] with tx := { s.tx with base := v } } ∧
    exec (.wlTxLimit v) s = .next { logged s [.mmioWrite 0x4114 .long v] with tx := { s.tx with limit := v } } ∧
    exec (.wlRxBase v) s = .next { logged s [.mmioWrite 0x4150 .long v] with rx := { s.rx with base := v } } ∧
    exec (.wlRxLimit v) s = .next { logged s [.mmioWrite 0x4154 .long v] with rx := { s.rx with limit := v } } ∧
    exec (.wlRxChainbase v) s = .next { logged s [.mmioWrite 0x4158 .long v] with
      rx := { s.rx with chainbase := v } } ∧
    exec (.wlRxChainlimit v) s = .next { logged s [.mmioWrite 0x415c .long v] with
      rx := { s.rx with chainlimit := v } }

/-- R106 to R108 (tier 1): a write through the TX base alias stores the value in the latch and in the base (D11), and
a write to the read-only RX saved window changes nothing (D12). -/
def Obligations.AliasAndReadOnlyLongWrites : Prop :=
  ∀ (s : State) (v : Word),
    exec (.wlTxBasew v) s = .next { logged s [.mmioWrite 0x4310 .long v] with
      tx := { s.tx with basew := v, base := v } } ∧
    exec (.wlRxSavedbase v) s = .next (logged s [.mmioWrite 0x4140 .long v]) ∧
    exec (.wlRxSavedlimit v) s = .next (logged s [.mmioWrite 0x4144 .long v])

/-- R34 (tier 2): the writers of every DMA field. A field a transaction changes is changed by one of the transactions
the table names for it; TX `chainbase`, TX `chainlimit` and RX `basew` are changed by none, and neither TX saved field
by a transfer. -/
def Obligations.DmaFieldsHaveOnlyTheirWriters : Prop :=
  ∀ (i : Instr) (s t : State), exec i s = .next t →
    (t.tx.csr ≠ s.tx.csr → ∃ v, i = .wlTxCsr v) ∧
    (t.tx.base ≠ s.tx.base → (∃ v, i = .wlTxBase v) ∨ ∃ v, i = .wlTxBasew v) ∧
    (t.tx.limit ≠ s.tx.limit → ∃ v, i = .wlTxLimit v) ∧
    (t.tx.savedbase ≠ s.tx.savedbase → ∃ v, i = .wlTxSavedbase v) ∧
    (t.tx.savedlimit ≠ s.tx.savedlimit → ∃ v, i = .wlTxSavedlimit v) ∧
    t.tx.chainbase = s.tx.chainbase ∧
    t.tx.chainlimit = s.tx.chainlimit ∧
    (t.tx.basew ≠ s.tx.basew → ∃ v, i = .wlTxBasew v) ∧
    (t.rx.csr ≠ s.rx.csr → (∃ v, i = .wlRxCsr v) ∨ ∃ pkt buffer, i = .rxDeliver pkt buffer) ∧
    (t.rx.base ≠ s.rx.base → (∃ v, i = .wlRxBase v) ∨
      ((∃ pkt buffer, i = .rxDeliver pkt buffer) ∧ t.rx.base = s.rx.chainbase)) ∧
    (t.rx.limit ≠ s.rx.limit → (∃ v, i = .wlRxLimit v) ∨
      ((∃ pkt buffer, i = .rxDeliver pkt buffer) ∧ t.rx.limit = s.rx.chainlimit)) ∧
    (t.rx.savedbase ≠ s.rx.savedbase → ∃ pkt buffer, i = .rxDeliver pkt buffer) ∧
    (t.rx.savedlimit ≠ s.rx.savedlimit → ∃ pkt buffer, i = .rxDeliver pkt buffer) ∧
    (t.rx.chainbase ≠ s.rx.chainbase → ∃ v, i = .wlRxChainbase v) ∧
    (t.rx.chainlimit ≠ s.rx.chainlimit → ∃ v, i = .wlRxChainlimit v) ∧
    t.rx.basew = s.rx.basew

/-- R21 to R24, R32 (tier 2): the writers of the other fields. A mask, a mode byte, the reset-mode byte and the MAC
change only by their own write, the levels, and the lines as the sink holds them (the model's own field, log entry 31),
only by a TX CSR write or a delivery, and the inputs still to come by no transaction. -/
def Obligations.OtherFieldsHaveOnlyTheirWriters : Prop :=
  ∀ (i : Instr) (s t : State), exec i s = .next t →
    (t.txMask ≠ s.txMask → ∃ v, i = .wbTxMask v) ∧
    (t.rxMask ≠ s.rxMask → ∃ v, i = .wbRxMask v) ∧
    (t.txMode ≠ s.txMode → ∃ v, i = .wbTxMode v) ∧
    (t.rxMode ≠ s.rxMode → ∃ v, i = .wbRxMode v) ∧
    (t.rstMode ≠ s.rstMode → ∃ v, i = .wbRstMode v) ∧
    (t.mac ≠ s.mac → ∃ v, i ∈ [.wbMac0 v, .wbMac1 v, .wbMac2 v, .wbMac3 v, .wbMac4 v, .wbMac5 v]) ∧
    (t.irq ≠ s.irq → (∃ v, i = .wlTxCsr v) ∨ ∃ pkt buffer, i = .rxDeliver pkt buffer) ∧
    (t.sinkLines ≠ s.sinkLines → (∃ v, i = .wlTxCsr v) ∨ ∃ pkt buffer, i = .rxDeliver pkt buffer) ∧
    t.pending = s.pending

/-! ## The stub and the unmapped offsets -/

/-- R113, R114 (tier 2): a 2-byte read at any offset answers 0 and a 2-byte write at any offset changes nothing, at the
offset of a register too. The words are those the two rules give. -/
def Obligations.TwoByteStub : Prop :=
  ∀ (off : Offset) (o : Operand) (v : Half) (s : State),
    decode (0x00020000 ||| off.setWidth 32) o = .ok (.rh off) ∧
    decode (0x000a0000 ||| off.setWidth 32) o = .ok (.wh off (BitVec.ofNat 16 o.value)) ∧
    exec (.rh off) s = .next (logged s [.mmioRead off .half 0]) ∧
    exec (.wh off v) s = .next (logged s [.mmioWrite off .half (v.setWidth 32)])

/-- R115, R117 (tier 2): a byte read at every offset but 0x6000 to 0x6006, and a long read at every offset that is no
long register's, is unmapped and answers 0. The words are those the two rules give. -/
def Obligations.UnmappedReadsAnswerZero : Prop :=
  ∀ (off : Offset) (o : Operand) (s : State),
    (off < 0x6000 ∨ 0x6006 < off → decode (0x00010000 ||| off.setWidth 32) o = .ok (.rbUnmapped off)) ∧
    (off ∉ ([0x0110, 0x0150, 0x4100, 0x4104, 0x4110, 0x4114, 0x4310, 0x4140, 0x4144, 0x4150, 0x4154, 0x4158,
        0x415c] : List Offset) →
      decode (0x00040000 ||| off.setWidth 32) o = .ok (.rlUnmapped off)) ∧
    exec (.rbUnmapped off) s = .next (logged s [.mmioRead off .byte 0]) ∧
    exec (.rlUnmapped off) s = .next (logged s [.mmioRead off .long 0])

/-- R116, R118 (tier 2): a byte write at every offset but 0x6000 to 0x6006 and 0x6008 to 0x600d, and a long write at
every offset that is no long register's, is unmapped and changes nothing. The words are those the two rules give. -/
def Obligations.UnmappedWritesChangeNothing : Prop :=
  ∀ (off : Offset) (o : Operand) (s : State) (b : Byte) (v : Word),
    (off < 0x6000 ∨ off = 0x6007 ∨ 0x600d < off →
      decode (0x00090000 ||| off.setWidth 32) o = .ok (.wbUnmapped off (BitVec.ofNat 8 o.value))) ∧
    (off ∉ ([0x0110, 0x0150, 0x4100, 0x4104, 0x4110, 0x4114, 0x4310, 0x4140, 0x4144, 0x4150, 0x4154, 0x4158,
        0x415c] : List Offset) →
      decode (0x000c0000 ||| off.setWidth 32) o = .ok (.wlUnmapped off (BitVec.ofNat 32 o.value))) ∧
    exec (.wbUnmapped off b) s = .next (logged s [.mmioWrite off .byte (b.setWidth 32)]) ∧
    exec (.wlUnmapped off v) s = .next (logged s [.mmioWrite off .long v])

/-! ## The CSRs -/

/-- R121 (tier 1): a CSR write runs RESET, SETENABLE, SETSUPDATE and clear-complete in that order, each only if its
command bit is set in the written value and each on the state the earlier ones left, under any layout. RESET clears
the three flags, SETENABLE runs the transfer on TX and none on RX, SETSUPDATE latches the flag, clear-complete clears
COMPLETE; a value without a command bit does nothing, and no value is stored. -/
def Obligations.CsrWriteRunsItsActionsInOrder : Prop :=
  ∀ (P : Params) (ch : Chan) (v : Word) (s : State),
    (∃ s₁ s₂ s₃ : State,
      s₁ = (if v &&& P.layout.cmdReset ≠ 0 then csrReset P ch s else s) ∧
      s₂ = (if v &&& P.layout.cmdSetEnable ≠ 0 then csrSetEnable P ch s₁ else s₁) ∧
      s₃ = (if v &&& P.layout.cmdSetSupdate ≠ 0 then csrSetSupdate P ch s₂ else s₂) ∧
      csrWrite P ch v s = (if v &&& P.layout.cmdClrComplete ≠ 0 then csrClrComplete P ch s₃ else s₃)) ∧
    csrReset P ch s = s.setCsr ch ((s.chan ch).csr &&&
      ~~~(P.layout.complete ||| P.layout.supdate ||| P.layout.enable)) ∧
    (∃ c, csrSetEnable P .tx s = txTransfer P (s.setCsr .tx c)) ∧
    (∃ c, csrSetEnable P .rx s = s.setCsr .rx c) ∧
    csrSetSupdate P ch s = s.setCsr ch ((s.chan ch).csr ||| P.layout.supdate) ∧
    csrClrComplete P ch s = s.setCsr ch ((s.chan ch).csr &&& ~~~P.layout.complete)

/-- R126 (tier 2): a bit of the written value that is no command bit has no effect, under any layout; the value of one
command bit performs that command alone, so where a command mask equals a state mask writing the state bit performs
the command; under the default layout writing back a value that holds only state bits performs no action. -/
def Obligations.OnlyCommandBitsOfACsrWriteCount : Prop :=
  (∀ (P : Params) (ch : Chan) (v w : Word) (s : State),
    (v ^^^ w) &&& (P.layout.cmdReset ||| P.layout.cmdSetEnable ||| P.layout.cmdSetSupdate |||
      P.layout.cmdClrComplete) = 0 → csrWrite P ch v s = csrWrite P ch w s) ∧
  (∀ (P : Params) (ch : Chan) (s : State), P.layout.wellFormed = true →
    csrWrite P ch P.layout.cmdReset s = csrReset P ch s ∧
    csrWrite P ch P.layout.cmdSetEnable s = csrSetEnable P ch s ∧
    csrWrite P ch P.layout.cmdSetSupdate s = csrSetSupdate P ch s ∧
    csrWrite P ch P.layout.cmdClrComplete s = csrClrComplete P ch s) ∧
  (∀ (ch : Chan) (v : Word) (s : State), v &&& ~~~0x0b000000#32 = 0 → csrWrite params ch v s = s)

/-- R122 to R125, R128 (tier 2): an RX CSR write, bit by bit: ENABLE is set by SETENABLE and else cleared by RESET,
SUPDATE likewise by SETSUPDATE, COMPLETE is cleared by RESET or clear-complete, every other bit and every other field
stays, and no bus event, no frame and no line follows. The bit positions are the default layout (D3, log entry 11);
that SETENABLE stores ENABLE is D4. -/
def Obligations.RxCsrWriteBitByBit : Prop :=
  ∀ (s : State) (v : Word),
    exec (.wlRxCsr v) s = .next { logged s [.mmioWrite 0x0150 .long v] with
      rx := { s.rx with csr := (csrBits (s.rx.csr &&& ~~~0x0b000000#32)
        (v.getLsbD 16 || (s.rx.csr.getLsbD 24 && !v.getLsbD 20))
        (v.getLsbD 17 || (s.rx.csr.getLsbD 25 && !v.getLsbD 20))
        (s.rx.csr.getLsbD 27 && !v.getLsbD 20 && !v.getLsbD 19)) } }

/-- R122, R124, R125, R127 (tier 2): a TX CSR write without SETENABLE, bit by bit: ENABLE is cleared by RESET, SUPDATE
is set by SETSUPDATE and else cleared by RESET, COMPLETE is cleared by RESET or clear-complete, and nothing else
changes: no transfer runs. The bit positions are the default layout (D3, log entry 11). -/
def Obligations.TxCsrWriteWithoutEnableMovesNothing : Prop :=
  ∀ (s : State) (v : Word), v.getLsbD 16 = false →
    exec (.wlTxCsr v) s = .next { logged s [.mmioWrite 0x0110 .long v] with
      tx := { s.tx with csr := (csrBits (s.tx.csr &&& ~~~0x0b000000#32)
        (s.tx.csr.getLsbD 24 && !v.getLsbD 20)
        (v.getLsbD 17 || (s.tx.csr.getLsbD 25 && !v.getLsbD 20))
        (s.tx.csr.getLsbD 27 && !v.getLsbD 20 && !v.getLsbD 19)) } }

/-- R122 to R125, R132, R135 (tier 2): the CSR actions under every well-formed layout: after an RX CSR write, and after
a TX CSR write that completes no transfer (one without SETENABLE, or one whose transfer is over the capacity), a state
bit is as the four command bits and its old value say, and every bit outside the state mask is as it was (R18). After a
TX CSR write that completes a transfer ENABLE and SUPDATE are set, COMPLETE is set unless clear-complete cleared it, and
every bit outside the state mask is as it was. That SETENABLE stores ENABLE is D4, the rejection D7. -/
def Obligations.CsrActionsUnderAnyLayout : Prop :=
  ∀ (P : Params) (v : Word) (s : State), P.layout.wellFormed = true →
    csrFollows P.layout v s.rx.csr (csrWrite P .rx v s).rx.csr ∧
    (hits v P.layout.cmdSetEnable = false ∨ P.txBufCapacity < txLength P s.tx →
      csrFollows P.layout v s.tx.csr (csrWrite P .tx v s).tx.csr) ∧
    (hits v P.layout.cmdSetEnable = true → txLength P s.tx ≤ P.txBufCapacity →
      let d := (csrWrite P .tx v s).tx.csr
      hits d P.layout.enable = true ∧ hits d P.layout.supdate = true ∧
      (hits d P.layout.complete = !hits v P.layout.cmdClrComplete) ∧
      d &&& ~~~P.layout.stateMask = s.tx.csr &&& ~~~P.layout.stateMask)

/-! ## The TX transfer -/

/-- R7, R130 (tier 2): for every allowed `TX_LIMIT_MASK` 2^k - 1, 24 <= k <= 31, and every limit and base, the TX
length is the distance from the base to the limit mod 2^k, 0 when the limit mod 2^k is not above the base. That the
base is not masked and which masks are allowed are the spec's decision D6 (log entry 9). -/
def Obligations.TxLengthFromTheMaskedLimit : Prop :=
  ∀ (P : Params) (c : DmaChannel) (k : Nat), 24 ≤ k → k ≤ 31 → P.txLimitMask = BitVec.ofNat 32 (2 ^ k - 1) →
    (txLength P c : Int) = max 0 (((c.limit.toNat % 2 ^ k : Nat) : Int) - (c.base.toNat : Int))

/-- R127, R133 to R138 (tier 2): a TX CSR write with SETENABLE whose length is within the capacity reads the frame,
sends it, sets COMPLETE and SUPDATE, sets status 0x80 and asserts IRQ_TX_DMA, in that order, each once; ENABLE stays
set, clear-complete in the same write clears COMPLETE after the transfer, RESET in the same write precedes it; nothing
else changes but the model's own `sinkLines` and `draws`. With length 0 there is no bus event and the empty frame is sent (D8). The bit positions are D3, the
stored ENABLE D4; the own event ahead of the others is log entry 3, the sink's own line beside the level log entry
31. The wrap and the byte order of the read are D17 and D24, its success D23. That the frame is what `mem` holds is the
model's choice (log entry 6; R35 leaves the answer to the bus), that a byte nothing has stored is free log entry 7, the
counter it is drawn at log entry 8. -/
def Obligations.TxTransferWithinCapacity : Prop :=
  ∀ (s : State) (v : Word), v.getLsbD 16 = true → txLength params s.tx ≤ params.txBufCapacity →
    let n := txLength params s.tx
    let frame := s.mem.fetchBytes s.tx.base s.draws n
    exec (.wlTxCsr v) s = .next { s with
      tx := { s.tx with csr := csrBits (s.tx.csr &&& ~~~0x0b000000#32) true true (!v.getLsbD 19) }
      txStat := 0x80
      irq := { s.irq with txDma := true }
      sinkLines := { s.sinkLines with txDma := true }
      history := s.history ++ [.mmioWrite 0x0110 .long v]
        ++ (if n = 0 then [] else [.busRead s.tx.base n frame]) ++ [.netSend frame, .irq .txDma]
      draws := s.draws + n }

/-- R131, R132 (tier 2): a TX CSR write with SETENABLE whose length exceeds the capacity, whatever the capacity and
the limit mask, is rejected: only the event TxRejected, no bus event, no frame, no status, no line; ENABLE stays set and
the other commands of the write still run. A TX CSR write is that write under the model's parameters, after its own
event, which stands ahead of everything the write triggers by the model's choice (log entry 3). The rejection and the
stored ENABLE are the spec's decisions D7 and D4, the bit positions D3. -/
def Obligations.OversizedTxTransferIsRejected : Prop :=
  (∀ (P : Params) (s : State) (v : Word), P.layout = csrLayout → v.getLsbD 16 = true →
    P.txBufCapacity < txLength P s.tx →
      csrWrite P .tx v s = { logged s [.txRejected (txLength P s.tx)] with
        tx := { s.tx with csr := (csrBits (s.tx.csr &&& ~~~0x0b000000#32) true
          (v.getLsbD 17 || (s.tx.csr.getLsbD 25 && !v.getLsbD 20))
          (s.tx.csr.getLsbD 27 && !v.getLsbD 20 && !v.getLsbD 19)) } }) ∧
  (∀ (s : State) (v : Word),
    exec (.wlTxCsr v) s = .next (csrWrite params .tx v (logged s [.mmioWrite 0x0110 .long v])))

/-- R135, R136 (tier 2): under any parameters a TX transfer that is not rejected sets COMPLETE and SUPDATE and no
other bit of the CSR, sets the TX status to 0x80 whatever it was, and asserts IRQ_TX_DMA exactly once and IRQ_TX not at
all, whatever the TX mask holds. -/
def Obligations.TxCompletionSetsStatusAndLine : Prop :=
  ∀ (P : Params) (s : State), txLength P s.tx ≤ P.txBufCapacity →
    let t := txTransfer P s
    t.tx = { s.tx with csr := s.tx.csr ||| P.layout.complete ||| P.layout.supdate } ∧
    t.txStat = 0x80 ∧
    t.irq = { s.irq with txDma := true } ∧
    ∃ new, t.history = s.history ++ new ∧ new.filterMap lineOf = [.txDma]

/-- R37, R41, R133, R134 (tier 2): the frame a TX transfer sends has the TX length, and its byte `j` is the byte bus
memory holds at `base + j` mod 2^32, for every byte memory holds. The byte order and the wrap are the spec's decisions
D24 and D17, that the read succeeds at once D23. That the bytes read are those `mem` holds is the model's choice (log
entry 6; R35 leaves the answer to the bus); the bytes of addresses nothing has stored are free (log entry 7). -/
def Obligations.TxSendsTheBytesMemoryHolds : Prop :=
  ∀ (s t : State) (v : Word), v.getLsbD 16 = true → txLength params s.tx ≤ params.txBufCapacity →
    exec (.wlTxCsr v) s = .next t →
    ∃ (new : List Event) (frame : List Byte), t.history = s.history ++ new ∧
      new.filter (fun e => match e with | .netSend _ => true | _ => false) = [.netSend frame] ∧
      frame.length = txLength params s.tx ∧
      ∀ (j : Nat) (b : Byte), j < txLength params s.tx →
        s.mem.byteAt ((s.tx.base.toNat + j) % 2 ^ 32) = some b → frame[j]? = some b

/-! ## The RX delivery -/

/-- R140 (tier 1): the accept-gate query answers the gate and changes nothing. -/
def Obligations.CanAcceptAnswersTheGate : Prop :=
  ∀ s : State, exec .canAccept s = .next (logged s [.canAccept (s.rxMode &&& 0x03 != 0)])

/-- R141 (tier 1): a delivery while bits 1:0 of RX mode are 0 changes nothing but the history, which gains the
delivery's own event with the result NotAccepted (D19). -/
def Obligations.DeliveryAtAClosedGateChangesNothing : Prop :=
  ∀ (s : State) (pkt buffer : List Byte), s.rxMode &&& 0x03 = 0 → pkt.length ≤ 2 ^ 32 - 32 →
    exec (.rxDeliver pkt buffer) s = .next (logged s [.rxDeliver pkt .notAccepted])

/-- R142 to R151 (tier 2): an accepted delivery, the whole next state: one bus write of the rounded length at the
base, the saved window, the chain adoption when SUPDATE is set, status 0x80, COMPLETE, one assertion of IRQ_RX_DMA, and
nothing else but the model's own `sinkLines` and `draws`. With an empty frame there is no bus write event (D8); SUPDATE
stays set (D5); the bit positions are D3; the wrap and the draw of the padding are D17 and D18 (log entry 8); that the
bytes stand in `mem` afterwards is the model's choice (log entry 6);
the own event ahead of the others is log entry 3, the sink's own line beside the level log entry 31. -/
def Obligations.AcceptedDeliveryNextState : Prop :=
  ∀ (s : State) (pkt buffer : List Byte), s.rxMode &&& 0x03 ≠ 0 → pkt.length ≤ 2 ^ 32 - 32 →
    let n := (pkt.length + 31) / 32 * 32
    let bytes := pkt ++ padding buffer s.draws (n - pkt.length)
    exec (.rxDeliver pkt buffer) s = .next { s with
      rx := { s.rx with
        savedbase := s.rx.base
        savedlimit := s.rx.base + BitVec.ofNat 32 n
        base := if s.rx.csr.getLsbD 25 then s.rx.chainbase else s.rx.base
        limit := if s.rx.csr.getLsbD 25 then s.rx.chainlimit else s.rx.limit
        csr := s.rx.csr ||| 0x08000000 }
      rxStat := 0x80
      irq := { s.irq with rxDma := true }
      sinkLines := { s.sinkLines with rxDma := true }
      mem := s.mem.storeBytes s.rx.base bytes
      history := s.history ++ [.rxDeliver pkt .accepted] ++ (if pkt = [] then [] else [.busWrite s.rx.base bytes])
        ++ [.irq .rxDma]
      draws := s.draws + (n - pkt.length - buffer.length) }

/-- R145, R146, R148, R149 (tier 2): under any parameters an accepted delivery records the window from the base before
the chain step over the rounded length (mod 2^32), adopts the chained window exactly when SUPDATE was set and leaves the chain
fields alone, sets the RX status to 0x80, sets COMPLETE and clears no COMPLETE that was set, leaves every other bit of
the CSR as it was (SUPDATE too, unless the parameter `RX_SUPDATE_AUTOCLEAR` is set, when it is cleared), and asserts
IRQ_RX_DMA exactly once and IRQ_RX not at all, whatever the RX mask holds. -/
def Obligations.AcceptedDeliverySavesChainsCompletes : Prop :=
  ∀ (P : Params) (s : State) (pkt buffer : List Byte), gate s = true →
    let t := rxDeliver P pkt buffer s
    t.rx.savedbase = s.rx.base ∧
    t.rx.savedlimit.toNat = (s.rx.base.toNat + (pkt.length + 31) / 32 * 32) % 2 ^ 32 ∧
    (s.rx.csr &&& P.layout.supdate ≠ 0 → t.rx.base = s.rx.chainbase ∧ t.rx.limit = s.rx.chainlimit) ∧
    (s.rx.csr &&& P.layout.supdate = 0 → t.rx.base = s.rx.base ∧ t.rx.limit = s.rx.limit) ∧
    t.rx.chainbase = s.rx.chainbase ∧ t.rx.chainlimit = s.rx.chainlimit ∧
    t.rxStat = 0x80 ∧
    t.rx.csr &&& P.layout.complete = P.layout.complete ∧
    t.rx.csr = (if P.rxSupdateAutoclear then s.rx.csr &&& ~~~P.layout.supdate else s.rx.csr) ||| P.layout.complete ∧
    t.irq = { s.irq with rxDma := true } ∧
    ∃ new, t.history = s.history ++ new ∧ new.filterMap lineOf = [.rxDma]

/-- R37, R41, R142 to R144, R177 (tier 2): the bytes an accepted delivery leaves in bus memory: frame byte `j` at
`base + j` mod 2^32, then the bytes of the backend's buffer, then free bytes, up to the rounded length; every address
outside that range reads as before. Byte order, wrap and draw are the spec's decisions D24, D17, D18 (log entry 8), that
the write succeeds at once D23; that the bytes stand in `mem` afterwards is the model's choice (log entry 6). -/
def Obligations.AcceptedDeliveryMemory : Prop :=
  ∀ (s t : State) (pkt buffer : List Byte), gate s = true → exec (.rxDeliver pkt buffer) s = .next t →
    let n := (pkt.length + 31) / 32 * 32
    (∀ (j : Nat) (hj : j < pkt.length), t.mem.byteAt ((s.rx.base.toNat + j) % 2 ^ 32) = some pkt[j]) ∧
    (∀ (j : Nat) (hj : j < buffer.length), pkt.length + j < n →
      t.mem.byteAt ((s.rx.base.toNat + pkt.length + j) % 2 ^ 32) = some buffer[j]) ∧
    (∀ j : Nat, pkt.length + buffer.length + j < n →
      t.mem.byteAt ((s.rx.base.toNat + pkt.length + buffer.length + j) % 2 ^ 32)
        = some (Config.freeByte (s.draws + j))) ∧
    (∀ a : Nat, (∀ j, j < n → a ≠ (s.rx.base.toNat + j) % 2 ^ 32) → t.mem.byteAt a = s.mem.byteAt a)

/-- R35, R43, R137 (tier 2): no transaction but an accepted delivery stores to bus memory: every address reads as
before. That bus memory stands in `mem` and keeps its bytes is the model's choice (log entry 6). -/
def Obligations.OnlyAcceptedDeliveriesStore : Prop :=
  ∀ (i : Instr) (s t : State), exec i s = .next t →
    ((∃ pkt buffer, i = .rxDeliver pkt buffer) → gate s = false) →
      ∀ a : Nat, t.mem.byteAt a = s.mem.byteAt a

/-- R147, R152, R176 (tier 2): with SUPDATE set two deliveries in a row both adopt the chain and SUPDATE stays set: the
second frame goes to the chained window and the window stays there. That adoption does not clear SUPDATE is the spec's
decision D5 (log entry 16). -/
def Obligations.ChainIsAdoptedAgainByTheNextDelivery : Prop :=
  ∀ (s t u : State) (pkt buffer pkt' buffer' : List Byte), gate s = true → s.rx.csr.getLsbD 25 = true →
    exec (.rxDeliver pkt buffer) s = .next t → exec (.rxDeliver pkt' buffer') t = .next u →
      t.rx.csr.getLsbD 25 = true ∧ u.rx.csr.getLsbD 25 = true ∧
      u.rx.savedbase = s.rx.chainbase ∧ u.rx.base = s.rx.chainbase ∧ u.rx.limit = s.rx.chainlimit

/-! ## Whole-machine rules -/

/-- R158 (tier 2): what every transaction asserts: IRQ_TX_DMA once by a completed TX transfer and by nothing else,
IRQ_RX_DMA once by an accepted delivery and by nothing else, IRQ_TX and IRQ_RX never. -/
def Obligations.OnlyCompletionsAssertALine : Prop :=
  ∀ (i : Instr) (s t : State), exec i s = .next t →
    ∃ new, t.history = s.history ++ new ∧
      new.filterMap lineOf = (match i with
        | .wlTxCsr v => if txCompletes v s then [.txDma] else []
        | .rxDeliver _ _ => if gate s then [.rxDma] else []
        | _ => [])

/-- R11, R46, R36 (tier 2): a transaction only appends to the history, its own event first and exactly one of those,
and makes at most one bus call. The place of the own event is log entry 3. -/
def Obligations.HistoryGrowsByOneTransaction : Prop :=
  ∀ (i : Instr) (s t : State), exec i s = .next t →
    ∃ own effects, t.history = s.history ++ own :: effects ∧
      (match own with
        | .mmioRead _ _ _ | .mmioWrite _ _ _ | .rxDeliver _ _ | .canAccept _ => True
        | _ => False) ∧
      (∀ e ∈ effects, match e with
        | .busRead _ _ _ | .busWrite _ _ | .netSend _ | .irq _ | .txRejected _ => True
        | _ => False) ∧
      (effects.filter fun e => match e with | .busRead _ _ _ | .busWrite _ _ => true | _ => false).length ≤ 1

/-- R26 (tier 2): the setters and clearers of the six CSR bits over all transactions, under the default layout (D3):
a bit that goes from 0 to 1 or from 1 to 0 does so by one of the commands or completions the table names for it. That
the RX adoption, which the table also lists, does not clear SUPDATE is the spec's decision D5 (log entry 16). -/
def Obligations.CsrBitsFollowTheFlagTable : Prop :=
  ∀ (i : Instr) (s t : State), exec i s = .next t →
    (s.tx.csr.getLsbD 24 = false → t.tx.csr.getLsbD 24 = true → ∃ v, i = .wlTxCsr v ∧ v.getLsbD 16 = true) ∧
    (s.tx.csr.getLsbD 24 = true → t.tx.csr.getLsbD 24 = false → ∃ v, i = .wlTxCsr v ∧ v.getLsbD 20 = true) ∧
    (s.tx.csr.getLsbD 25 = false → t.tx.csr.getLsbD 25 = true →
      ∃ v, i = .wlTxCsr v ∧ (v.getLsbD 17 = true ∨ txCompletes v s = true)) ∧
    (s.tx.csr.getLsbD 25 = true → t.tx.csr.getLsbD 25 = false → ∃ v, i = .wlTxCsr v ∧ v.getLsbD 20 = true) ∧
    (s.tx.csr.getLsbD 27 = false → t.tx.csr.getLsbD 27 = true → ∃ v, i = .wlTxCsr v ∧ txCompletes v s = true) ∧
    (s.tx.csr.getLsbD 27 = true → t.tx.csr.getLsbD 27 = false →
      ∃ v, i = .wlTxCsr v ∧ (v.getLsbD 20 = true ∨ v.getLsbD 19 = true)) ∧
    (s.rx.csr.getLsbD 24 = false → t.rx.csr.getLsbD 24 = true → ∃ v, i = .wlRxCsr v ∧ v.getLsbD 16 = true) ∧
    (s.rx.csr.getLsbD 24 = true → t.rx.csr.getLsbD 24 = false → ∃ v, i = .wlRxCsr v ∧ v.getLsbD 20 = true) ∧
    (s.rx.csr.getLsbD 25 = false → t.rx.csr.getLsbD 25 = true → ∃ v, i = .wlRxCsr v ∧ v.getLsbD 17 = true) ∧
    (s.rx.csr.getLsbD 25 = true → t.rx.csr.getLsbD 25 = false → ∃ v, i = .wlRxCsr v ∧ v.getLsbD 20 = true) ∧
    (s.rx.csr.getLsbD 27 = false → t.rx.csr.getLsbD 27 = true →
      (∃ pkt buffer, i = .rxDeliver pkt buffer) ∧ gate s = true) ∧
    (s.rx.csr.getLsbD 27 = true → t.rx.csr.getLsbD 27 = false →
      ∃ v, i = .wlRxCsr v ∧ (v.getLsbD 20 = true ∨ v.getLsbD 19 = true))

/-- R43 (tier 2): an MMIO access or a gate query that triggers no TX transfer is idempotent, except a MAC byte 5 write
that leaves the MAC unset and so draws a default: repeating it changes nothing but the history. That reads have no side
effect is the spec's decision D22 (log entry 25), that a MAC is unset when all six bytes are 0 is D13 (log entry
12). -/
def Obligations.RepeatedAccessesAreIdempotent : Prop :=
  ∀ (i : Instr) (s t u : State),
    (∀ pkt buffer, i ≠ .rxDeliver pkt buffer) →
    (∀ v, i = .wlTxCsr v → v.getLsbD 16 = false) →
    (∀ v, i = .wbMac5 v → s.mac.b0 ≠ 0 ∨ s.mac.b1 ≠ 0 ∨ s.mac.b2 ≠ 0 ∨ s.mac.b3 ≠ 0 ∨ s.mac.b4 ≠ 0 ∨ v ≠ 0) →
    exec i s = .next t → exec i t = .next u → u = { t with history := u.history }

/-- R24, R32, R160, R182 (tier 2): no step lowers a level but the re-creation of the device (log entry 29): the sink's
lowering of a line leaves `S.irq` alone (log entry 31). That the block never lowers one is the spec's decision D14 (log
entry 20). -/
def Obligations.NoStepLowersALine : Prop :=
  ∀ (s t : State) (line : IrqLine), step s = .next t → (∀ rest, s.pending ≠ .platformReset :: rest) →
    s.irq.level line = true → t.irq.level line = true

/-! ## Invariants -/

/-- R171 (tier 1): the state at creation: every register 0, the MAC the configured one, every level 0, no event. The
values are the spec's decision D15 (log entries 4 and 5); that no byte of bus memory is listed (log entries 6 and 7), that
the sink holds every line low (log entry 31), that no input waits (log entry 1) and that no free byte is drawn (log entry
8) are the model's own. -/
def Obligations.ResetStateIsTheCreationState : Prop :=
  State.reset.tx = ⟨0, 0, 0, 0, 0, 0, 0, 0⟩ ∧ State.reset.rx = ⟨0, 0, 0, 0, 0, 0, 0, 0⟩ ∧
  State.reset.txStat = 0 ∧ State.reset.txMask = 0 ∧ State.reset.txMode = 0 ∧
  State.reset.rxStat = 0 ∧ State.reset.rxMask = 0 ∧ State.reset.rxMode = 0 ∧ State.reset.rstMode = 0 ∧
  State.reset.mac = Config.configuredMac ∧ State.reset.irq = ⟨false, false, false, false⟩ ∧
  State.reset.sinkLines = ⟨false, false, false, false⟩ ∧
  State.reset.history = [] ∧ State.reset.mem = [] ∧ State.reset.pending = [] ∧ State.reset.draws = 0 ∧
  gate State.reset = false

/-- R7, R18 (tier 1): the parameters every transaction runs with meet the constraints of R7: a well-formed layout
(D3), an allowed limit mask (D6) and a capacity of at least 0x100 (D7), whatever the OPEN values are. -/
def Obligations.ParametersMeetTheirConstraints : Prop :=
  params.layout.wellFormed = true ∧ 0x100 ≤ params.txBufCapacity ∧
  ∃ k, 24 ≤ k ∧ k ≤ 31 ∧ params.txLimitMask.toNat = 2 ^ k - 1

/-- R17, R24, R30, R171, R181 (tier 1): the invariant holds at creation. The values are the spec's decision D15 (log
entry 4), the empty bus memory is the model's own (log entries 6 and 7). -/
def Obligations.InvariantHoldsAtReset : Prop := State.reset.Inv

/-- R17, R24, R30, R158, R160, R181 (tier 3): every step from a state with the invariant, whatever input comes next,
answers a state with the invariant: bus memory keeps its canonical form, the CSRs hold state bits only, IRQ_TX and
IRQ_RX stay low, the fields without an offset keep their reset value, no status byte is 0xFF, and a line is high
exactly when the history holds its assertion. The bit positions are the spec's decision D3, that the block lowers no line
D14 (log entry 20), that the fields without an offset are never written D25 (log entry 27), the values a re-creation gives
D15 (log entries 4 and 29); the form of bus memory is the model's own (log entry 6), and that the sink's lowering leaves
`S.irq` alone its reading of R32 and R54 (log entry 31). -/
def Obligations.EveryStepKeepsTheInvariant : Prop :=
  ∀ s t : State, s.Inv → step s = .next t → t.Inv

/-- R17 (tier 3): in every state a step answers, from any state whose CSRs hold state bits only, the CSRs hold state
bits only: no command bit is ever stored. The bit positions are the default layout (D3). -/
def Obligations.CsrsHoldOnlyStateBits : Prop :=
  ∀ s t : State, s.tx.csr &&& ~~~0x0b000000#32 = 0 → s.rx.csr &&& ~~~0x0b000000#32 = 0 → step s = .next t →
    t.tx.csr &&& ~~~0x0b000000#32 = 0 ∧ t.rx.csr &&& ~~~0x0b000000#32 = 0

/-- R28, R35 (tier 3): bus memory keeps its canonical form under every step: addresses strictly rising and inside the
2^32-byte space. The form is the model's own (log entry 6). -/
def Obligations.MemoryStaysCanonical : Prop :=
  ∀ s t : State, s.mem.wf → step s = .next t → t.mem.wf

/-- R24, R160 (tier 2): the level of a line follows the history: where a line is high exactly when the history since
creation holds an assertion of it, the same is true after every step, whatever else the state holds. That the block never
lowers a line is the spec's decision D14 (log entry 20), that the sink's lowering leaves `S.irq` alone log entry 31. -/
def Obligations.LevelsFollowTheHistory : Prop :=
  ∀ (s t : State) (line : IrqLine), (s.irq.level line = true ↔ Event.irq line ∈ s.history) → step s = .next t →
    (t.irq.level line = true ↔ Event.irq line ∈ t.history)

/-- R32, R54 (tier 2): the lines as the sink holds them: a step that is not the sink's lowering of a line leaves that line
high exactly when it was high or the step asserted it; the sink's lowering leaves it low, and changes no level of `S.irq`
and no event. That these lines stand outside `S` is the model's reading of R32 and R54 (log entry 31). -/
def Obligations.SinkLinesRiseByAssertionsAndFallByTheSink : Prop :=
  ∀ (s t : State) (line : IrqLine), step s = .next t →
    ((∀ rest, s.pending ≠ .deassert line :: rest) →
      (t.sinkLines.level line = true ↔
        s.sinkLines.level line = true ∨ Event.irq line ∈ t.history.drop s.history.length)) ∧
    (∀ rest, s.pending = .deassert line :: rest →
      t.sinkLines.level line = false ∧ t.irq = s.irq ∧ t.history = s.history)
end

