-- ==== Sys2Proof/Laws/Decode.lean ====
section
/-! SUPPORT. The fields of a word the encoder lays out, and when a row of the table selects a word (R61 to R63). -/

namespace Sys2Proof

/-- The class of an MMIO word: everything but its offset (R61). -/
def mmioClass (w : Width) (write : Bool) : Half :=
  match w, write with
  | .byte, false => 0x0001
  | .byte, true  => 0x0009
  | .half, false => 0x0002
  | .half, true  => 0x000a
  | .long, false => 0x0004
  | .long, true  => 0x000c

/-- An MMIO word is its class above its offset (R61, R64). -/
theorem mmioWord_eq_append (w : Width) (write : Bool) (off : Offset) :
    mmioWord w write off = mmioClass w write ++ off := by
  have key : ∀ c : Half, (c ++ (0 : Half)) ||| off.setWidth 32 = c ++ off := by
    intro c
    ext i hi
    simp only [BitVec.getElem_or, BitVec.getElem_append, BitVec.getElem_setWidth]
    split <;> rename_i h
    · simp [BitVec.getLsbD_eq_getElem h]
    · simp [BitVec.getLsbD_of_ge off i (by omega)]
  rw [← key]
  cases w <;> cases write <;> rfl

/-- The low half of an append. -/
theorem extract_append_low (c off : Half) : (c ++ off : Word).extractLsb' 0 16 = off := by
  ext i hi
  simp only [BitVec.getElem_extractLsb', BitVec.getLsbD_append]
  rw [if_pos (by omega), Nat.zero_add, BitVec.getLsbD_eq_getElem hi]

@[simp] theorem fieldOFF_mmioWord (w : Width) (write : Bool) (off : Offset) :
    Word.fieldOFF (mmioWord w write off) = off := by
  rw [mmioWord_eq_append, Word.fieldOFF, extract_append_low]

/-- The bits of an append above its low half. -/
theorem extract_append_high (c off : Half) (start len : Nat) (h : 16 ≤ start) :
    (c ++ off : Word).extractLsb' start len = c.extractLsb' (start - 16) len := by
  ext i hi
  simp only [BitVec.getElem_extractLsb', BitVec.getLsbD_append]
  rw [if_neg (by omega)]
  congr 1
  omega

@[simp] theorem fieldRSV_mmioWord (w : Width) (write : Bool) (off : Offset) :
    Word.fieldRSV (mmioWord w write off) = 0 := by
  rw [mmioWord_eq_append, Word.fieldRSV, extract_append_high _ _ _ _ (by decide)]
  cases w <;> cases write <;> rfl

@[simp] theorem fieldK_mmioWord (w : Width) (write : Bool) (off : Offset) :
    Word.fieldK (mmioWord w write off) = 0 := by
  rw [mmioWord_eq_append, Word.fieldK, extract_append_high _ _ _ _ (by decide)]
  cases w <;> cases write <;> rfl

@[simp] theorem fieldD_mmioWord (w : Width) (write : Bool) (off : Offset) :
    Word.fieldD (mmioWord w write off) = if write then 1 else 0 := by
  rw [mmioWord_eq_append, Word.fieldD, extract_append_high _ _ _ _ (by decide)]
  cases w <;> cases write <;> rfl

@[simp] theorem fieldW_mmioWord (w : Width) (write : Bool) (off : Offset) :
    Word.fieldW (mmioWord w write off) = match w with | .byte => 1 | .half => 2 | .long => 4 := by
  rw [mmioWord_eq_append, Word.fieldW, extract_append_high _ _ _ _ (by decide)]
  cases w <;> cases write <;> rfl

/-- The encoder's MMIO words pass steps 1 to 3 of R63. -/
@[simp] theorem reservedCheck_mmioWord (w : Width) (write : Bool) (off : Offset) :
    reservedCheck (mmioWord w write off) = none := by
  cases w <;> simp [reservedCheck]

/-- An exact row selects its own code and nothing else (R63 step 4). -/
@[simp] theorem exactRow_selects (code t : Word) (make : Operand → Instr) :
    (exactRow code make).selects t = (t == code) := by
  have : t &&& 0xffffffff#32 = t := BitVec.and_allOnes
  simp [exactRow, Row.selects, this]

/-- A word of a class equals a code exactly when the classes and the offsets agree. -/
theorem mmioWord_eq_iff (w : Width) (write : Bool) (off : Offset) (code : Word) :
    mmioWord w write off = code ↔
      mmioClass w write = code.extractLsb' 16 16 ∧ off = code.extractLsb' 0 16 := by
  rw [mmioWord_eq_append]
  constructor
  · rintro rfl
    refine ⟨?_, ?_⟩
    · rw [extract_append_high _ _ _ _ (by decide)]
      exact (BitVec.extractLsb'_eq_self).symm
    · exact (extract_append_low _ _).symm
  · rintro ⟨h, h'⟩
    rw [h, h']
    ext i hi
    simp only [BitVec.getElem_append, BitVec.getElem_extractLsb']
    split
    · simp [BitVec.getLsbD_eq_getElem hi]
    · rw [show 16 + (i - 16) = i by omega, BitVec.getLsbD_eq_getElem hi]

end Sys2Proof
end

