-- ==== Sys2Proof/Laws/State.lean ====
section
/-! SUPPORT. What each update of the state does to each field, by definition. -/

namespace Sys2Proof.Machine

@[simp] theorem State.setTx_tx (s : State) (x : DmaChannel) : (s.setTx x).tx = x := rfl
@[simp] theorem State.setTx_rx (s : State) (x : DmaChannel) : (s.setTx x).rx = s.rx := rfl
@[simp] theorem State.setTx_txStat (s : State) (x : DmaChannel) : (s.setTx x).txStat = s.txStat := rfl
@[simp] theorem State.setTx_txMask (s : State) (x : DmaChannel) : (s.setTx x).txMask = s.txMask := rfl
@[simp] theorem State.setTx_txMode (s : State) (x : DmaChannel) : (s.setTx x).txMode = s.txMode := rfl
@[simp] theorem State.setTx_rxStat (s : State) (x : DmaChannel) : (s.setTx x).rxStat = s.rxStat := rfl
@[simp] theorem State.setTx_rxMask (s : State) (x : DmaChannel) : (s.setTx x).rxMask = s.rxMask := rfl
@[simp] theorem State.setTx_rxMode (s : State) (x : DmaChannel) : (s.setTx x).rxMode = s.rxMode := rfl
@[simp] theorem State.setTx_rstMode (s : State) (x : DmaChannel) : (s.setTx x).rstMode = s.rstMode := rfl
@[simp] theorem State.setTx_mac (s : State) (x : DmaChannel) : (s.setTx x).mac = s.mac := rfl
@[simp] theorem State.setTx_irq (s : State) (x : DmaChannel) : (s.setTx x).irq = s.irq := rfl
@[simp] theorem State.setTx_mem (s : State) (x : DmaChannel) : (s.setTx x).mem = s.mem := rfl
@[simp] theorem State.setTx_sinkLines (s : State) (x : DmaChannel) : (s.setTx x).sinkLines = s.sinkLines := rfl
@[simp] theorem State.setTx_history (s : State) (x : DmaChannel) : (s.setTx x).history = s.history := rfl
@[simp] theorem State.setTx_pending (s : State) (x : DmaChannel) : (s.setTx x).pending = s.pending := rfl
@[simp] theorem State.setTx_draws (s : State) (x : DmaChannel) : (s.setTx x).draws = s.draws := rfl

@[simp] theorem State.setRx_tx (s : State) (x : DmaChannel) : (s.setRx x).tx = s.tx := rfl
@[simp] theorem State.setRx_rx (s : State) (x : DmaChannel) : (s.setRx x).rx = x := rfl
@[simp] theorem State.setRx_txStat (s : State) (x : DmaChannel) : (s.setRx x).txStat = s.txStat := rfl
@[simp] theorem State.setRx_txMask (s : State) (x : DmaChannel) : (s.setRx x).txMask = s.txMask := rfl
@[simp] theorem State.setRx_txMode (s : State) (x : DmaChannel) : (s.setRx x).txMode = s.txMode := rfl
@[simp] theorem State.setRx_rxStat (s : State) (x : DmaChannel) : (s.setRx x).rxStat = s.rxStat := rfl
@[simp] theorem State.setRx_rxMask (s : State) (x : DmaChannel) : (s.setRx x).rxMask = s.rxMask := rfl
@[simp] theorem State.setRx_rxMode (s : State) (x : DmaChannel) : (s.setRx x).rxMode = s.rxMode := rfl
@[simp] theorem State.setRx_rstMode (s : State) (x : DmaChannel) : (s.setRx x).rstMode = s.rstMode := rfl
@[simp] theorem State.setRx_mac (s : State) (x : DmaChannel) : (s.setRx x).mac = s.mac := rfl
@[simp] theorem State.setRx_irq (s : State) (x : DmaChannel) : (s.setRx x).irq = s.irq := rfl
@[simp] theorem State.setRx_mem (s : State) (x : DmaChannel) : (s.setRx x).mem = s.mem := rfl
@[simp] theorem State.setRx_sinkLines (s : State) (x : DmaChannel) : (s.setRx x).sinkLines = s.sinkLines := rfl
@[simp] theorem State.setRx_history (s : State) (x : DmaChannel) : (s.setRx x).history = s.history := rfl
@[simp] theorem State.setRx_pending (s : State) (x : DmaChannel) : (s.setRx x).pending = s.pending := rfl
@[simp] theorem State.setRx_draws (s : State) (x : DmaChannel) : (s.setRx x).draws = s.draws := rfl

@[simp] theorem State.setTxStat_tx (s : State) (x : Byte) : (s.setTxStat x).tx = s.tx := rfl
@[simp] theorem State.setTxStat_rx (s : State) (x : Byte) : (s.setTxStat x).rx = s.rx := rfl
@[simp] theorem State.setTxStat_txStat (s : State) (x : Byte) : (s.setTxStat x).txStat = x := rfl
@[simp] theorem State.setTxStat_txMask (s : State) (x : Byte) : (s.setTxStat x).txMask = s.txMask := rfl
@[simp] theorem State.setTxStat_txMode (s : State) (x : Byte) : (s.setTxStat x).txMode = s.txMode := rfl
@[simp] theorem State.setTxStat_rxStat (s : State) (x : Byte) : (s.setTxStat x).rxStat = s.rxStat := rfl
@[simp] theorem State.setTxStat_rxMask (s : State) (x : Byte) : (s.setTxStat x).rxMask = s.rxMask := rfl
@[simp] theorem State.setTxStat_rxMode (s : State) (x : Byte) : (s.setTxStat x).rxMode = s.rxMode := rfl
@[simp] theorem State.setTxStat_rstMode (s : State) (x : Byte) : (s.setTxStat x).rstMode = s.rstMode := rfl
@[simp] theorem State.setTxStat_mac (s : State) (x : Byte) : (s.setTxStat x).mac = s.mac := rfl
@[simp] theorem State.setTxStat_irq (s : State) (x : Byte) : (s.setTxStat x).irq = s.irq := rfl
@[simp] theorem State.setTxStat_mem (s : State) (x : Byte) : (s.setTxStat x).mem = s.mem := rfl
@[simp] theorem State.setTxStat_sinkLines (s : State) (x : Byte) : (s.setTxStat x).sinkLines = s.sinkLines := rfl
@[simp] theorem State.setTxStat_history (s : State) (x : Byte) : (s.setTxStat x).history = s.history := rfl
@[simp] theorem State.setTxStat_pending (s : State) (x : Byte) : (s.setTxStat x).pending = s.pending := rfl
@[simp] theorem State.setTxStat_draws (s : State) (x : Byte) : (s.setTxStat x).draws = s.draws := rfl

@[simp] theorem State.setTxMask_tx (s : State) (x : Byte) : (s.setTxMask x).tx = s.tx := rfl
@[simp] theorem State.setTxMask_rx (s : State) (x : Byte) : (s.setTxMask x).rx = s.rx := rfl
@[simp] theorem State.setTxMask_txStat (s : State) (x : Byte) : (s.setTxMask x).txStat = s.txStat := rfl
@[simp] theorem State.setTxMask_txMask (s : State) (x : Byte) : (s.setTxMask x).txMask = x := rfl
@[simp] theorem State.setTxMask_txMode (s : State) (x : Byte) : (s.setTxMask x).txMode = s.txMode := rfl
@[simp] theorem State.setTxMask_rxStat (s : State) (x : Byte) : (s.setTxMask x).rxStat = s.rxStat := rfl
@[simp] theorem State.setTxMask_rxMask (s : State) (x : Byte) : (s.setTxMask x).rxMask = s.rxMask := rfl
@[simp] theorem State.setTxMask_rxMode (s : State) (x : Byte) : (s.setTxMask x).rxMode = s.rxMode := rfl
@[simp] theorem State.setTxMask_rstMode (s : State) (x : Byte) : (s.setTxMask x).rstMode = s.rstMode := rfl
@[simp] theorem State.setTxMask_mac (s : State) (x : Byte) : (s.setTxMask x).mac = s.mac := rfl
@[simp] theorem State.setTxMask_irq (s : State) (x : Byte) : (s.setTxMask x).irq = s.irq := rfl
@[simp] theorem State.setTxMask_mem (s : State) (x : Byte) : (s.setTxMask x).mem = s.mem := rfl
@[simp] theorem State.setTxMask_sinkLines (s : State) (x : Byte) : (s.setTxMask x).sinkLines = s.sinkLines := rfl
@[simp] theorem State.setTxMask_history (s : State) (x : Byte) : (s.setTxMask x).history = s.history := rfl
@[simp] theorem State.setTxMask_pending (s : State) (x : Byte) : (s.setTxMask x).pending = s.pending := rfl
@[simp] theorem State.setTxMask_draws (s : State) (x : Byte) : (s.setTxMask x).draws = s.draws := rfl

@[simp] theorem State.setTxMode_tx (s : State) (x : Byte) : (s.setTxMode x).tx = s.tx := rfl
@[simp] theorem State.setTxMode_rx (s : State) (x : Byte) : (s.setTxMode x).rx = s.rx := rfl
@[simp] theorem State.setTxMode_txStat (s : State) (x : Byte) : (s.setTxMode x).txStat = s.txStat := rfl
@[simp] theorem State.setTxMode_txMask (s : State) (x : Byte) : (s.setTxMode x).txMask = s.txMask := rfl
@[simp] theorem State.setTxMode_txMode (s : State) (x : Byte) : (s.setTxMode x).txMode = x := rfl
@[simp] theorem State.setTxMode_rxStat (s : State) (x : Byte) : (s.setTxMode x).rxStat = s.rxStat := rfl
@[simp] theorem State.setTxMode_rxMask (s : State) (x : Byte) : (s.setTxMode x).rxMask = s.rxMask := rfl
@[simp] theorem State.setTxMode_rxMode (s : State) (x : Byte) : (s.setTxMode x).rxMode = s.rxMode := rfl
@[simp] theorem State.setTxMode_rstMode (s : State) (x : Byte) : (s.setTxMode x).rstMode = s.rstMode := rfl
@[simp] theorem State.setTxMode_mac (s : State) (x : Byte) : (s.setTxMode x).mac = s.mac := rfl
@[simp] theorem State.setTxMode_irq (s : State) (x : Byte) : (s.setTxMode x).irq = s.irq := rfl
@[simp] theorem State.setTxMode_mem (s : State) (x : Byte) : (s.setTxMode x).mem = s.mem := rfl
@[simp] theorem State.setTxMode_sinkLines (s : State) (x : Byte) : (s.setTxMode x).sinkLines = s.sinkLines := rfl
@[simp] theorem State.setTxMode_history (s : State) (x : Byte) : (s.setTxMode x).history = s.history := rfl
@[simp] theorem State.setTxMode_pending (s : State) (x : Byte) : (s.setTxMode x).pending = s.pending := rfl
@[simp] theorem State.setTxMode_draws (s : State) (x : Byte) : (s.setTxMode x).draws = s.draws := rfl

@[simp] theorem State.setRxStat_tx (s : State) (x : Byte) : (s.setRxStat x).tx = s.tx := rfl
@[simp] theorem State.setRxStat_rx (s : State) (x : Byte) : (s.setRxStat x).rx = s.rx := rfl
@[simp] theorem State.setRxStat_txStat (s : State) (x : Byte) : (s.setRxStat x).txStat = s.txStat := rfl
@[simp] theorem State.setRxStat_txMask (s : State) (x : Byte) : (s.setRxStat x).txMask = s.txMask := rfl
@[simp] theorem State.setRxStat_txMode (s : State) (x : Byte) : (s.setRxStat x).txMode = s.txMode := rfl
@[simp] theorem State.setRxStat_rxStat (s : State) (x : Byte) : (s.setRxStat x).rxStat = x := rfl
@[simp] theorem State.setRxStat_rxMask (s : State) (x : Byte) : (s.setRxStat x).rxMask = s.rxMask := rfl
@[simp] theorem State.setRxStat_rxMode (s : State) (x : Byte) : (s.setRxStat x).rxMode = s.rxMode := rfl
@[simp] theorem State.setRxStat_rstMode (s : State) (x : Byte) : (s.setRxStat x).rstMode = s.rstMode := rfl
@[simp] theorem State.setRxStat_mac (s : State) (x : Byte) : (s.setRxStat x).mac = s.mac := rfl
@[simp] theorem State.setRxStat_irq (s : State) (x : Byte) : (s.setRxStat x).irq = s.irq := rfl
@[simp] theorem State.setRxStat_mem (s : State) (x : Byte) : (s.setRxStat x).mem = s.mem := rfl
@[simp] theorem State.setRxStat_sinkLines (s : State) (x : Byte) : (s.setRxStat x).sinkLines = s.sinkLines := rfl
@[simp] theorem State.setRxStat_history (s : State) (x : Byte) : (s.setRxStat x).history = s.history := rfl
@[simp] theorem State.setRxStat_pending (s : State) (x : Byte) : (s.setRxStat x).pending = s.pending := rfl
@[simp] theorem State.setRxStat_draws (s : State) (x : Byte) : (s.setRxStat x).draws = s.draws := rfl

@[simp] theorem State.setRxMask_tx (s : State) (x : Byte) : (s.setRxMask x).tx = s.tx := rfl
@[simp] theorem State.setRxMask_rx (s : State) (x : Byte) : (s.setRxMask x).rx = s.rx := rfl
@[simp] theorem State.setRxMask_txStat (s : State) (x : Byte) : (s.setRxMask x).txStat = s.txStat := rfl
@[simp] theorem State.setRxMask_txMask (s : State) (x : Byte) : (s.setRxMask x).txMask = s.txMask := rfl
@[simp] theorem State.setRxMask_txMode (s : State) (x : Byte) : (s.setRxMask x).txMode = s.txMode := rfl
@[simp] theorem State.setRxMask_rxStat (s : State) (x : Byte) : (s.setRxMask x).rxStat = s.rxStat := rfl
@[simp] theorem State.setRxMask_rxMask (s : State) (x : Byte) : (s.setRxMask x).rxMask = x := rfl
@[simp] theorem State.setRxMask_rxMode (s : State) (x : Byte) : (s.setRxMask x).rxMode = s.rxMode := rfl
@[simp] theorem State.setRxMask_rstMode (s : State) (x : Byte) : (s.setRxMask x).rstMode = s.rstMode := rfl
@[simp] theorem State.setRxMask_mac (s : State) (x : Byte) : (s.setRxMask x).mac = s.mac := rfl
@[simp] theorem State.setRxMask_irq (s : State) (x : Byte) : (s.setRxMask x).irq = s.irq := rfl
@[simp] theorem State.setRxMask_mem (s : State) (x : Byte) : (s.setRxMask x).mem = s.mem := rfl
@[simp] theorem State.setRxMask_sinkLines (s : State) (x : Byte) : (s.setRxMask x).sinkLines = s.sinkLines := rfl
@[simp] theorem State.setRxMask_history (s : State) (x : Byte) : (s.setRxMask x).history = s.history := rfl
@[simp] theorem State.setRxMask_pending (s : State) (x : Byte) : (s.setRxMask x).pending = s.pending := rfl
@[simp] theorem State.setRxMask_draws (s : State) (x : Byte) : (s.setRxMask x).draws = s.draws := rfl

@[simp] theorem State.setRxMode_tx (s : State) (x : Byte) : (s.setRxMode x).tx = s.tx := rfl
@[simp] theorem State.setRxMode_rx (s : State) (x : Byte) : (s.setRxMode x).rx = s.rx := rfl
@[simp] theorem State.setRxMode_txStat (s : State) (x : Byte) : (s.setRxMode x).txStat = s.txStat := rfl
@[simp] theorem State.setRxMode_txMask (s : State) (x : Byte) : (s.setRxMode x).txMask = s.txMask := rfl
@[simp] theorem State.setRxMode_txMode (s : State) (x : Byte) : (s.setRxMode x).txMode = s.txMode := rfl
@[simp] theorem State.setRxMode_rxStat (s : State) (x : Byte) : (s.setRxMode x).rxStat = s.rxStat := rfl
@[simp] theorem State.setRxMode_rxMask (s : State) (x : Byte) : (s.setRxMode x).rxMask = s.rxMask := rfl
@[simp] theorem State.setRxMode_rxMode (s : State) (x : Byte) : (s.setRxMode x).rxMode = x := rfl
@[simp] theorem State.setRxMode_rstMode (s : State) (x : Byte) : (s.setRxMode x).rstMode = s.rstMode := rfl
@[simp] theorem State.setRxMode_mac (s : State) (x : Byte) : (s.setRxMode x).mac = s.mac := rfl
@[simp] theorem State.setRxMode_irq (s : State) (x : Byte) : (s.setRxMode x).irq = s.irq := rfl
@[simp] theorem State.setRxMode_mem (s : State) (x : Byte) : (s.setRxMode x).mem = s.mem := rfl
@[simp] theorem State.setRxMode_sinkLines (s : State) (x : Byte) : (s.setRxMode x).sinkLines = s.sinkLines := rfl
@[simp] theorem State.setRxMode_history (s : State) (x : Byte) : (s.setRxMode x).history = s.history := rfl
@[simp] theorem State.setRxMode_pending (s : State) (x : Byte) : (s.setRxMode x).pending = s.pending := rfl
@[simp] theorem State.setRxMode_draws (s : State) (x : Byte) : (s.setRxMode x).draws = s.draws := rfl

@[simp] theorem State.setRstMode_tx (s : State) (x : Byte) : (s.setRstMode x).tx = s.tx := rfl
@[simp] theorem State.setRstMode_rx (s : State) (x : Byte) : (s.setRstMode x).rx = s.rx := rfl
@[simp] theorem State.setRstMode_txStat (s : State) (x : Byte) : (s.setRstMode x).txStat = s.txStat := rfl
@[simp] theorem State.setRstMode_txMask (s : State) (x : Byte) : (s.setRstMode x).txMask = s.txMask := rfl
@[simp] theorem State.setRstMode_txMode (s : State) (x : Byte) : (s.setRstMode x).txMode = s.txMode := rfl
@[simp] theorem State.setRstMode_rxStat (s : State) (x : Byte) : (s.setRstMode x).rxStat = s.rxStat := rfl
@[simp] theorem State.setRstMode_rxMask (s : State) (x : Byte) : (s.setRstMode x).rxMask = s.rxMask := rfl
@[simp] theorem State.setRstMode_rxMode (s : State) (x : Byte) : (s.setRstMode x).rxMode = s.rxMode := rfl
@[simp] theorem State.setRstMode_rstMode (s : State) (x : Byte) : (s.setRstMode x).rstMode = x := rfl
@[simp] theorem State.setRstMode_mac (s : State) (x : Byte) : (s.setRstMode x).mac = s.mac := rfl
@[simp] theorem State.setRstMode_irq (s : State) (x : Byte) : (s.setRstMode x).irq = s.irq := rfl
@[simp] theorem State.setRstMode_mem (s : State) (x : Byte) : (s.setRstMode x).mem = s.mem := rfl
@[simp] theorem State.setRstMode_sinkLines (s : State) (x : Byte) : (s.setRstMode x).sinkLines = s.sinkLines := rfl
@[simp] theorem State.setRstMode_history (s : State) (x : Byte) : (s.setRstMode x).history = s.history := rfl
@[simp] theorem State.setRstMode_pending (s : State) (x : Byte) : (s.setRstMode x).pending = s.pending := rfl
@[simp] theorem State.setRstMode_draws (s : State) (x : Byte) : (s.setRstMode x).draws = s.draws := rfl

@[simp] theorem State.setMac_tx (s : State) (x : Mac) : (s.setMac x).tx = s.tx := rfl
@[simp] theorem State.setMac_rx (s : State) (x : Mac) : (s.setMac x).rx = s.rx := rfl
@[simp] theorem State.setMac_txStat (s : State) (x : Mac) : (s.setMac x).txStat = s.txStat := rfl
@[simp] theorem State.setMac_txMask (s : State) (x : Mac) : (s.setMac x).txMask = s.txMask := rfl
@[simp] theorem State.setMac_txMode (s : State) (x : Mac) : (s.setMac x).txMode = s.txMode := rfl
@[simp] theorem State.setMac_rxStat (s : State) (x : Mac) : (s.setMac x).rxStat = s.rxStat := rfl
@[simp] theorem State.setMac_rxMask (s : State) (x : Mac) : (s.setMac x).rxMask = s.rxMask := rfl
@[simp] theorem State.setMac_rxMode (s : State) (x : Mac) : (s.setMac x).rxMode = s.rxMode := rfl
@[simp] theorem State.setMac_rstMode (s : State) (x : Mac) : (s.setMac x).rstMode = s.rstMode := rfl
@[simp] theorem State.setMac_mac (s : State) (x : Mac) : (s.setMac x).mac = x := rfl
@[simp] theorem State.setMac_irq (s : State) (x : Mac) : (s.setMac x).irq = s.irq := rfl
@[simp] theorem State.setMac_mem (s : State) (x : Mac) : (s.setMac x).mem = s.mem := rfl
@[simp] theorem State.setMac_sinkLines (s : State) (x : Mac) : (s.setMac x).sinkLines = s.sinkLines := rfl
@[simp] theorem State.setMac_history (s : State) (x : Mac) : (s.setMac x).history = s.history := rfl
@[simp] theorem State.setMac_pending (s : State) (x : Mac) : (s.setMac x).pending = s.pending := rfl
@[simp] theorem State.setMac_draws (s : State) (x : Mac) : (s.setMac x).draws = s.draws := rfl

@[simp] theorem State.setIrq_tx (s : State) (x : IrqLevels) : (s.setIrq x).tx = s.tx := rfl
@[simp] theorem State.setIrq_rx (s : State) (x : IrqLevels) : (s.setIrq x).rx = s.rx := rfl
@[simp] theorem State.setIrq_txStat (s : State) (x : IrqLevels) : (s.setIrq x).txStat = s.txStat := rfl
@[simp] theorem State.setIrq_txMask (s : State) (x : IrqLevels) : (s.setIrq x).txMask = s.txMask := rfl
@[simp] theorem State.setIrq_txMode (s : State) (x : IrqLevels) : (s.setIrq x).txMode = s.txMode := rfl
@[simp] theorem State.setIrq_rxStat (s : State) (x : IrqLevels) : (s.setIrq x).rxStat = s.rxStat := rfl
@[simp] theorem State.setIrq_rxMask (s : State) (x : IrqLevels) : (s.setIrq x).rxMask = s.rxMask := rfl
@[simp] theorem State.setIrq_rxMode (s : State) (x : IrqLevels) : (s.setIrq x).rxMode = s.rxMode := rfl
@[simp] theorem State.setIrq_rstMode (s : State) (x : IrqLevels) : (s.setIrq x).rstMode = s.rstMode := rfl
@[simp] theorem State.setIrq_mac (s : State) (x : IrqLevels) : (s.setIrq x).mac = s.mac := rfl
@[simp] theorem State.setIrq_irq (s : State) (x : IrqLevels) : (s.setIrq x).irq = x := rfl
@[simp] theorem State.setIrq_mem (s : State) (x : IrqLevels) : (s.setIrq x).mem = s.mem := rfl
@[simp] theorem State.setIrq_sinkLines (s : State) (x : IrqLevels) : (s.setIrq x).sinkLines = s.sinkLines := rfl
@[simp] theorem State.setIrq_history (s : State) (x : IrqLevels) : (s.setIrq x).history = s.history := rfl
@[simp] theorem State.setIrq_pending (s : State) (x : IrqLevels) : (s.setIrq x).pending = s.pending := rfl
@[simp] theorem State.setIrq_draws (s : State) (x : IrqLevels) : (s.setIrq x).draws = s.draws := rfl

@[simp] theorem State.setSinkLines_tx (s : State) (x : IrqLevels) : (s.setSinkLines x).tx = s.tx := rfl
@[simp] theorem State.setSinkLines_rx (s : State) (x : IrqLevels) : (s.setSinkLines x).rx = s.rx := rfl
@[simp] theorem State.setSinkLines_txStat (s : State) (x : IrqLevels) : (s.setSinkLines x).txStat = s.txStat := rfl
@[simp] theorem State.setSinkLines_txMask (s : State) (x : IrqLevels) : (s.setSinkLines x).txMask = s.txMask := rfl
@[simp] theorem State.setSinkLines_txMode (s : State) (x : IrqLevels) : (s.setSinkLines x).txMode = s.txMode := rfl
@[simp] theorem State.setSinkLines_rxStat (s : State) (x : IrqLevels) : (s.setSinkLines x).rxStat = s.rxStat := rfl
@[simp] theorem State.setSinkLines_rxMask (s : State) (x : IrqLevels) : (s.setSinkLines x).rxMask = s.rxMask := rfl
@[simp] theorem State.setSinkLines_rxMode (s : State) (x : IrqLevels) : (s.setSinkLines x).rxMode = s.rxMode := rfl
@[simp] theorem State.setSinkLines_rstMode (s : State) (x : IrqLevels) : (s.setSinkLines x).rstMode = s.rstMode := rfl
@[simp] theorem State.setSinkLines_mac (s : State) (x : IrqLevels) : (s.setSinkLines x).mac = s.mac := rfl
@[simp] theorem State.setSinkLines_irq (s : State) (x : IrqLevels) : (s.setSinkLines x).irq = s.irq := rfl
@[simp] theorem State.setSinkLines_mem (s : State) (x : IrqLevels) : (s.setSinkLines x).mem = s.mem := rfl
@[simp] theorem State.setSinkLines_sinkLines (s : State) (x : IrqLevels) : (s.setSinkLines x).sinkLines = x := rfl
@[simp] theorem State.setSinkLines_history (s : State) (x : IrqLevels) : (s.setSinkLines x).history = s.history := rfl
@[simp] theorem State.setSinkLines_pending (s : State) (x : IrqLevels) : (s.setSinkLines x).pending = s.pending := rfl
@[simp] theorem State.setSinkLines_draws (s : State) (x : IrqLevels) : (s.setSinkLines x).draws = s.draws := rfl

@[simp] theorem State.setMem_tx (s : State) (x : Memory) : (s.setMem x).tx = s.tx := rfl
@[simp] theorem State.setMem_rx (s : State) (x : Memory) : (s.setMem x).rx = s.rx := rfl
@[simp] theorem State.setMem_txStat (s : State) (x : Memory) : (s.setMem x).txStat = s.txStat := rfl
@[simp] theorem State.setMem_txMask (s : State) (x : Memory) : (s.setMem x).txMask = s.txMask := rfl
@[simp] theorem State.setMem_txMode (s : State) (x : Memory) : (s.setMem x).txMode = s.txMode := rfl
@[simp] theorem State.setMem_rxStat (s : State) (x : Memory) : (s.setMem x).rxStat = s.rxStat := rfl
@[simp] theorem State.setMem_rxMask (s : State) (x : Memory) : (s.setMem x).rxMask = s.rxMask := rfl
@[simp] theorem State.setMem_rxMode (s : State) (x : Memory) : (s.setMem x).rxMode = s.rxMode := rfl
@[simp] theorem State.setMem_rstMode (s : State) (x : Memory) : (s.setMem x).rstMode = s.rstMode := rfl
@[simp] theorem State.setMem_mac (s : State) (x : Memory) : (s.setMem x).mac = s.mac := rfl
@[simp] theorem State.setMem_irq (s : State) (x : Memory) : (s.setMem x).irq = s.irq := rfl
@[simp] theorem State.setMem_mem (s : State) (x : Memory) : (s.setMem x).mem = x := rfl
@[simp] theorem State.setMem_sinkLines (s : State) (x : Memory) : (s.setMem x).sinkLines = s.sinkLines := rfl
@[simp] theorem State.setMem_history (s : State) (x : Memory) : (s.setMem x).history = s.history := rfl
@[simp] theorem State.setMem_pending (s : State) (x : Memory) : (s.setMem x).pending = s.pending := rfl
@[simp] theorem State.setMem_draws (s : State) (x : Memory) : (s.setMem x).draws = s.draws := rfl

@[simp] theorem State.setPending_tx (s : State) (x : List Delivery) : (s.setPending x).tx = s.tx := rfl
@[simp] theorem State.setPending_rx (s : State) (x : List Delivery) : (s.setPending x).rx = s.rx := rfl
@[simp] theorem State.setPending_txStat (s : State) (x : List Delivery) : (s.setPending x).txStat = s.txStat := rfl
@[simp] theorem State.setPending_txMask (s : State) (x : List Delivery) : (s.setPending x).txMask = s.txMask := rfl
@[simp] theorem State.setPending_txMode (s : State) (x : List Delivery) : (s.setPending x).txMode = s.txMode := rfl
@[simp] theorem State.setPending_rxStat (s : State) (x : List Delivery) : (s.setPending x).rxStat = s.rxStat := rfl
@[simp] theorem State.setPending_rxMask (s : State) (x : List Delivery) : (s.setPending x).rxMask = s.rxMask := rfl
@[simp] theorem State.setPending_rxMode (s : State) (x : List Delivery) : (s.setPending x).rxMode = s.rxMode := rfl
@[simp] theorem State.setPending_rstMode (s : State) (x : List Delivery) : (s.setPending x).rstMode = s.rstMode := rfl
@[simp] theorem State.setPending_mac (s : State) (x : List Delivery) : (s.setPending x).mac = s.mac := rfl
@[simp] theorem State.setPending_irq (s : State) (x : List Delivery) : (s.setPending x).irq = s.irq := rfl
@[simp] theorem State.setPending_mem (s : State) (x : List Delivery) : (s.setPending x).mem = s.mem := rfl
@[simp] theorem State.setPending_sinkLines (s : State) (x : List Delivery) : (s.setPending x).sinkLines = s.sinkLines := rfl
@[simp] theorem State.setPending_history (s : State) (x : List Delivery) : (s.setPending x).history = s.history := rfl
@[simp] theorem State.setPending_pending (s : State) (x : List Delivery) : (s.setPending x).pending = x := rfl
@[simp] theorem State.setPending_draws (s : State) (x : List Delivery) : (s.setPending x).draws = s.draws := rfl

@[simp] theorem State.setDraws_tx (s : State) (x : Nat) : (s.setDraws x).tx = s.tx := rfl
@[simp] theorem State.setDraws_rx (s : State) (x : Nat) : (s.setDraws x).rx = s.rx := rfl
@[simp] theorem State.setDraws_txStat (s : State) (x : Nat) : (s.setDraws x).txStat = s.txStat := rfl
@[simp] theorem State.setDraws_txMask (s : State) (x : Nat) : (s.setDraws x).txMask = s.txMask := rfl
@[simp] theorem State.setDraws_txMode (s : State) (x : Nat) : (s.setDraws x).txMode = s.txMode := rfl
@[simp] theorem State.setDraws_rxStat (s : State) (x : Nat) : (s.setDraws x).rxStat = s.rxStat := rfl
@[simp] theorem State.setDraws_rxMask (s : State) (x : Nat) : (s.setDraws x).rxMask = s.rxMask := rfl
@[simp] theorem State.setDraws_rxMode (s : State) (x : Nat) : (s.setDraws x).rxMode = s.rxMode := rfl
@[simp] theorem State.setDraws_rstMode (s : State) (x : Nat) : (s.setDraws x).rstMode = s.rstMode := rfl
@[simp] theorem State.setDraws_mac (s : State) (x : Nat) : (s.setDraws x).mac = s.mac := rfl
@[simp] theorem State.setDraws_irq (s : State) (x : Nat) : (s.setDraws x).irq = s.irq := rfl
@[simp] theorem State.setDraws_mem (s : State) (x : Nat) : (s.setDraws x).mem = s.mem := rfl
@[simp] theorem State.setDraws_sinkLines (s : State) (x : Nat) : (s.setDraws x).sinkLines = s.sinkLines := rfl
@[simp] theorem State.setDraws_history (s : State) (x : Nat) : (s.setDraws x).history = s.history := rfl
@[simp] theorem State.setDraws_pending (s : State) (x : Nat) : (s.setDraws x).pending = s.pending := rfl
@[simp] theorem State.setDraws_draws (s : State) (x : Nat) : (s.setDraws x).draws = x := rfl

@[simp] theorem State.record_tx (s : State) (e : Event) : (s.record e).tx = s.tx := rfl
@[simp] theorem State.record_rx (s : State) (e : Event) : (s.record e).rx = s.rx := rfl
@[simp] theorem State.record_txStat (s : State) (e : Event) : (s.record e).txStat = s.txStat := rfl
@[simp] theorem State.record_txMask (s : State) (e : Event) : (s.record e).txMask = s.txMask := rfl
@[simp] theorem State.record_txMode (s : State) (e : Event) : (s.record e).txMode = s.txMode := rfl
@[simp] theorem State.record_rxStat (s : State) (e : Event) : (s.record e).rxStat = s.rxStat := rfl
@[simp] theorem State.record_rxMask (s : State) (e : Event) : (s.record e).rxMask = s.rxMask := rfl
@[simp] theorem State.record_rxMode (s : State) (e : Event) : (s.record e).rxMode = s.rxMode := rfl
@[simp] theorem State.record_rstMode (s : State) (e : Event) : (s.record e).rstMode = s.rstMode := rfl
@[simp] theorem State.record_mac (s : State) (e : Event) : (s.record e).mac = s.mac := rfl
@[simp] theorem State.record_irq (s : State) (e : Event) : (s.record e).irq = s.irq := rfl
@[simp] theorem State.record_mem (s : State) (e : Event) : (s.record e).mem = s.mem := rfl
@[simp] theorem State.record_sinkLines (s : State) (e : Event) : (s.record e).sinkLines = s.sinkLines := rfl
@[simp] theorem State.record_history (s : State) (e : Event) : (s.record e).history = s.history ++ [e] := rfl
@[simp] theorem State.record_pending (s : State) (e : Event) : (s.record e).pending = s.pending := rfl
@[simp] theorem State.record_draws (s : State) (e : Event) : (s.record e).draws = s.draws := rfl

@[simp] theorem State.mmioRead_tx (s : State) (off : Offset) (w : Width) (v : Word) : (s.mmioRead off w v).tx = s.tx := rfl
@[simp] theorem State.mmioRead_rx (s : State) (off : Offset) (w : Width) (v : Word) : (s.mmioRead off w v).rx = s.rx := rfl
@[simp] theorem State.mmioRead_txStat (s : State) (off : Offset) (w : Width) (v : Word) : (s.mmioRead off w v).txStat = s.txStat := rfl
@[simp] theorem State.mmioRead_txMask (s : State) (off : Offset) (w : Width) (v : Word) : (s.mmioRead off w v).txMask = s.txMask := rfl
@[simp] theorem State.mmioRead_txMode (s : State) (off : Offset) (w : Width) (v : Word) : (s.mmioRead off w v).txMode = s.txMode := rfl
@[simp] theorem State.mmioRead_rxStat (s : State) (off : Offset) (w : Width) (v : Word) : (s.mmioRead off w v).rxStat = s.rxStat := rfl
@[simp] theorem State.mmioRead_rxMask (s : State) (off : Offset) (w : Width) (v : Word) : (s.mmioRead off w v).rxMask = s.rxMask := rfl
@[simp] theorem State.mmioRead_rxMode (s : State) (off : Offset) (w : Width) (v : Word) : (s.mmioRead off w v).rxMode = s.rxMode := rfl
@[simp] theorem State.mmioRead_rstMode (s : State) (off : Offset) (w : Width) (v : Word) : (s.mmioRead off w v).rstMode = s.rstMode := rfl
@[simp] theorem State.mmioRead_mac (s : State) (off : Offset) (w : Width) (v : Word) : (s.mmioRead off w v).mac = s.mac := rfl
@[simp] theorem State.mmioRead_irq (s : State) (off : Offset) (w : Width) (v : Word) : (s.mmioRead off w v).irq = s.irq := rfl
@[simp] theorem State.mmioRead_mem (s : State) (off : Offset) (w : Width) (v : Word) : (s.mmioRead off w v).mem = s.mem := rfl
@[simp] theorem State.mmioRead_sinkLines (s : State) (off : Offset) (w : Width) (v : Word) : (s.mmioRead off w v).sinkLines = s.sinkLines := rfl
@[simp] theorem State.mmioRead_history (s : State) (off : Offset) (w : Width) (v : Word) : (s.mmioRead off w v).history = s.history ++ [.mmioRead off w v] := rfl
@[simp] theorem State.mmioRead_pending (s : State) (off : Offset) (w : Width) (v : Word) : (s.mmioRead off w v).pending = s.pending := rfl
@[simp] theorem State.mmioRead_draws (s : State) (off : Offset) (w : Width) (v : Word) : (s.mmioRead off w v).draws = s.draws := rfl

@[simp] theorem State.mmioWrite_tx (s : State) (off : Offset) (w : Width) (v : Word) : (s.mmioWrite off w v).tx = s.tx := rfl
@[simp] theorem State.mmioWrite_rx (s : State) (off : Offset) (w : Width) (v : Word) : (s.mmioWrite off w v).rx = s.rx := rfl
@[simp] theorem State.mmioWrite_txStat (s : State) (off : Offset) (w : Width) (v : Word) : (s.mmioWrite off w v).txStat = s.txStat := rfl
@[simp] theorem State.mmioWrite_txMask (s : State) (off : Offset) (w : Width) (v : Word) : (s.mmioWrite off w v).txMask = s.txMask := rfl
@[simp] theorem State.mmioWrite_txMode (s : State) (off : Offset) (w : Width) (v : Word) : (s.mmioWrite off w v).txMode = s.txMode := rfl
@[simp] theorem State.mmioWrite_rxStat (s : State) (off : Offset) (w : Width) (v : Word) : (s.mmioWrite off w v).rxStat = s.rxStat := rfl
@[simp] theorem State.mmioWrite_rxMask (s : State) (off : Offset) (w : Width) (v : Word) : (s.mmioWrite off w v).rxMask = s.rxMask := rfl
@[simp] theorem State.mmioWrite_rxMode (s : State) (off : Offset) (w : Width) (v : Word) : (s.mmioWrite off w v).rxMode = s.rxMode := rfl
@[simp] theorem State.mmioWrite_rstMode (s : State) (off : Offset) (w : Width) (v : Word) : (s.mmioWrite off w v).rstMode = s.rstMode := rfl
@[simp] theorem State.mmioWrite_mac (s : State) (off : Offset) (w : Width) (v : Word) : (s.mmioWrite off w v).mac = s.mac := rfl
@[simp] theorem State.mmioWrite_irq (s : State) (off : Offset) (w : Width) (v : Word) : (s.mmioWrite off w v).irq = s.irq := rfl
@[simp] theorem State.mmioWrite_mem (s : State) (off : Offset) (w : Width) (v : Word) : (s.mmioWrite off w v).mem = s.mem := rfl
@[simp] theorem State.mmioWrite_sinkLines (s : State) (off : Offset) (w : Width) (v : Word) : (s.mmioWrite off w v).sinkLines = s.sinkLines := rfl
@[simp] theorem State.mmioWrite_history (s : State) (off : Offset) (w : Width) (v : Word) : (s.mmioWrite off w v).history = s.history ++ [.mmioWrite off w v] := rfl
@[simp] theorem State.mmioWrite_pending (s : State) (off : Offset) (w : Width) (v : Word) : (s.mmioWrite off w v).pending = s.pending := rfl
@[simp] theorem State.mmioWrite_draws (s : State) (off : Offset) (w : Width) (v : Word) : (s.mmioWrite off w v).draws = s.draws := rfl

@[simp] theorem State.netSend_tx (s : State) (b : List Byte) : (s.netSend b).tx = s.tx := rfl
@[simp] theorem State.netSend_rx (s : State) (b : List Byte) : (s.netSend b).rx = s.rx := rfl
@[simp] theorem State.netSend_txStat (s : State) (b : List Byte) : (s.netSend b).txStat = s.txStat := rfl
@[simp] theorem State.netSend_txMask (s : State) (b : List Byte) : (s.netSend b).txMask = s.txMask := rfl
@[simp] theorem State.netSend_txMode (s : State) (b : List Byte) : (s.netSend b).txMode = s.txMode := rfl
@[simp] theorem State.netSend_rxStat (s : State) (b : List Byte) : (s.netSend b).rxStat = s.rxStat := rfl
@[simp] theorem State.netSend_rxMask (s : State) (b : List Byte) : (s.netSend b).rxMask = s.rxMask := rfl
@[simp] theorem State.netSend_rxMode (s : State) (b : List Byte) : (s.netSend b).rxMode = s.rxMode := rfl
@[simp] theorem State.netSend_rstMode (s : State) (b : List Byte) : (s.netSend b).rstMode = s.rstMode := rfl
@[simp] theorem State.netSend_mac (s : State) (b : List Byte) : (s.netSend b).mac = s.mac := rfl
@[simp] theorem State.netSend_irq (s : State) (b : List Byte) : (s.netSend b).irq = s.irq := rfl
@[simp] theorem State.netSend_mem (s : State) (b : List Byte) : (s.netSend b).mem = s.mem := rfl
@[simp] theorem State.netSend_sinkLines (s : State) (b : List Byte) : (s.netSend b).sinkLines = s.sinkLines := rfl
@[simp] theorem State.netSend_history (s : State) (b : List Byte) : (s.netSend b).history = s.history ++ [.netSend b] := rfl
@[simp] theorem State.netSend_pending (s : State) (b : List Byte) : (s.netSend b).pending = s.pending := rfl
@[simp] theorem State.netSend_draws (s : State) (b : List Byte) : (s.netSend b).draws = s.draws := rfl

@[simp] theorem State.assertIrq_tx (s : State) (line : IrqLine) : (s.assertIrq line).tx = s.tx := rfl
@[simp] theorem State.assertIrq_rx (s : State) (line : IrqLine) : (s.assertIrq line).rx = s.rx := rfl
@[simp] theorem State.assertIrq_txStat (s : State) (line : IrqLine) : (s.assertIrq line).txStat = s.txStat := rfl
@[simp] theorem State.assertIrq_txMask (s : State) (line : IrqLine) : (s.assertIrq line).txMask = s.txMask := rfl
@[simp] theorem State.assertIrq_txMode (s : State) (line : IrqLine) : (s.assertIrq line).txMode = s.txMode := rfl
@[simp] theorem State.assertIrq_rxStat (s : State) (line : IrqLine) : (s.assertIrq line).rxStat = s.rxStat := rfl
@[simp] theorem State.assertIrq_rxMask (s : State) (line : IrqLine) : (s.assertIrq line).rxMask = s.rxMask := rfl
@[simp] theorem State.assertIrq_rxMode (s : State) (line : IrqLine) : (s.assertIrq line).rxMode = s.rxMode := rfl
@[simp] theorem State.assertIrq_rstMode (s : State) (line : IrqLine) : (s.assertIrq line).rstMode = s.rstMode := rfl
@[simp] theorem State.assertIrq_mac (s : State) (line : IrqLine) : (s.assertIrq line).mac = s.mac := rfl
@[simp] theorem State.assertIrq_irq (s : State) (line : IrqLine) : (s.assertIrq line).irq = s.irq.assert line := rfl
@[simp] theorem State.assertIrq_mem (s : State) (line : IrqLine) : (s.assertIrq line).mem = s.mem := rfl
@[simp] theorem State.assertIrq_sinkLines (s : State) (line : IrqLine) : (s.assertIrq line).sinkLines = s.sinkLines.assert line := rfl
@[simp] theorem State.assertIrq_history (s : State) (line : IrqLine) : (s.assertIrq line).history = s.history ++ [.irq line] := rfl
@[simp] theorem State.assertIrq_pending (s : State) (line : IrqLine) : (s.assertIrq line).pending = s.pending := rfl
@[simp] theorem State.assertIrq_draws (s : State) (line : IrqLine) : (s.assertIrq line).draws = s.draws := rfl

@[simp] theorem State.setCsr_tx (s : State) (v : Word) : s.setCsr .tx v = s.setTx { s.tx with csr := v } := rfl
@[simp] theorem State.setCsr_rx (s : State) (v : Word) : s.setCsr .rx v = s.setRx { s.rx with csr := v } := rfl
@[simp] theorem State.chan_tx (s : State) : s.chan .tx = s.tx := rfl
@[simp] theorem State.chan_rx (s : State) : s.chan .rx = s.rx := rfl

@[simp] theorem State.recreate_tx (s : State) : s.recreate.tx = DmaChannel.reset := rfl
@[simp] theorem State.recreate_rx (s : State) : s.recreate.rx = DmaChannel.reset := rfl
@[simp] theorem State.recreate_txStat (s : State) : s.recreate.txStat = 0x00 := rfl
@[simp] theorem State.recreate_txMask (s : State) : s.recreate.txMask = 0x00 := rfl
@[simp] theorem State.recreate_txMode (s : State) : s.recreate.txMode = 0x00 := rfl
@[simp] theorem State.recreate_rxStat (s : State) : s.recreate.rxStat = 0x00 := rfl
@[simp] theorem State.recreate_rxMask (s : State) : s.recreate.rxMask = 0x00 := rfl
@[simp] theorem State.recreate_rxMode (s : State) : s.recreate.rxMode = 0x00 := rfl
@[simp] theorem State.recreate_rstMode (s : State) : s.recreate.rstMode = 0x00 := rfl
@[simp] theorem State.recreate_mac (s : State) : s.recreate.mac = Config.configuredMac := rfl
@[simp] theorem State.recreate_irq (s : State) : s.recreate.irq = ⟨false, false, false, false⟩ := rfl
@[simp] theorem State.recreate_mem (s : State) : s.recreate.mem = s.mem := rfl
@[simp] theorem State.recreate_sinkLines (s : State) : s.recreate.sinkLines = s.sinkLines := rfl
@[simp] theorem State.recreate_history (s : State) : s.recreate.history = [] := rfl
@[simp] theorem State.recreate_pending (s : State) : s.recreate.pending = s.pending := rfl
@[simp] theorem State.recreate_draws (s : State) : s.recreate.draws = s.draws := rfl

@[simp] theorem State.deassertIrq_tx (s : State) (line : IrqLine) : (s.deassertIrq line).tx = s.tx := rfl
@[simp] theorem State.deassertIrq_rx (s : State) (line : IrqLine) : (s.deassertIrq line).rx = s.rx := rfl
@[simp] theorem State.deassertIrq_txStat (s : State) (line : IrqLine) : (s.deassertIrq line).txStat = s.txStat := rfl
@[simp] theorem State.deassertIrq_txMask (s : State) (line : IrqLine) : (s.deassertIrq line).txMask = s.txMask := rfl
@[simp] theorem State.deassertIrq_txMode (s : State) (line : IrqLine) : (s.deassertIrq line).txMode = s.txMode := rfl
@[simp] theorem State.deassertIrq_rxStat (s : State) (line : IrqLine) : (s.deassertIrq line).rxStat = s.rxStat := rfl
@[simp] theorem State.deassertIrq_rxMask (s : State) (line : IrqLine) : (s.deassertIrq line).rxMask = s.rxMask := rfl
@[simp] theorem State.deassertIrq_rxMode (s : State) (line : IrqLine) : (s.deassertIrq line).rxMode = s.rxMode := rfl
@[simp] theorem State.deassertIrq_rstMode (s : State) (line : IrqLine) : (s.deassertIrq line).rstMode = s.rstMode := rfl
@[simp] theorem State.deassertIrq_mac (s : State) (line : IrqLine) : (s.deassertIrq line).mac = s.mac := rfl
@[simp] theorem State.deassertIrq_irq (s : State) (line : IrqLine) : (s.deassertIrq line).irq = s.irq := rfl
@[simp] theorem State.deassertIrq_mem (s : State) (line : IrqLine) : (s.deassertIrq line).mem = s.mem := rfl
@[simp] theorem State.deassertIrq_sinkLines (s : State) (line : IrqLine) : (s.deassertIrq line).sinkLines = s.sinkLines.deassert line := rfl
@[simp] theorem State.deassertIrq_history (s : State) (line : IrqLine) : (s.deassertIrq line).history = s.history := rfl
@[simp] theorem State.deassertIrq_pending (s : State) (line : IrqLine) : (s.deassertIrq line).pending = s.pending := rfl
@[simp] theorem State.deassertIrq_draws (s : State) (line : IrqLine) : (s.deassertIrq line).draws = s.draws := rfl

/-- A read of a register keeps everything but the history, which gains the event. -/
theorem State.mmioRead_eq (s : State) (off : Offset) (w : Width) (v : Word) :
    s.mmioRead off w v = { s with history := s.history ++ [.mmioRead off w v] } := rfl

/-- The own event of a write keeps everything but the history. -/
theorem State.mmioWrite_eq (s : State) (off : Offset) (w : Width) (v : Word) :
    s.mmioWrite off w v = { s with history := s.history ++ [.mmioWrite off w v] } := rfl

end Sys2Proof.Machine
end

