-- ==== Sys2Proof/Laws/Memory.lean ====
section
/-! SUPPORT. The laws of the system-bus memory: a stored byte reads back, every other address is left alone, and
every operation keeps the canonical form. -/

namespace Sys2Proof.Machine

@[simp] theorem Memory.byteAt_nil (a : Nat) : Memory.byteAt [] a = none := rfl

/-- A read after a write: the byte at the address written, every other address as before. -/
@[simp] theorem Memory.byteAt_store (m : Memory) (a x : Nat) (b : Byte) :
    (m.store a b).byteAt x = if x = a then some b else m.byteAt x := by
  induction m with
  | nil =>
    by_cases h : a = x
    · simp [Memory.store, Memory.byteAt, h]
    · simp [Memory.store, Memory.byteAt, h, Ne.symm h]
  | cons c rest ih =>
    simp only [Memory.store]
    split
    · simp [Memory.byteAt, eq_comm]
    · split
      · rename_i heq
        subst heq
        simp only [Memory.byteAt, eq_comm (a := x)]
        split <;> rfl
      · rename_i hne
        simp only [Memory.byteAt, ih]
        by_cases hx : c.1 = x
        · have : x ≠ a := fun h => hne (hx.trans h)
          simp [hx, this]
        · simp [hx]

theorem Memory.mem_store {m : Memory} {a : Nat} {b : Byte} {c : Host.Cell} (h : c ∈ m.store a b) :
    c = (a, b) ∨ c ∈ m := by
  induction m with
  | nil => simpa [Memory.store] using h
  | cons d rest ih =>
    simp only [Memory.store] at h
    split at h
    · simpa using h
    · split at h
      · rcases List.mem_cons.mp h with h | h
        · exact .inl h
        · exact .inr (List.mem_cons_of_mem _ h)
      · rcases List.mem_cons.mp h with h | h
        · exact .inr (h ▸ List.mem_cons_self)
        · exact (ih h).imp id (List.mem_cons_of_mem _)

theorem Memory.store_pairwise {m : Memory} (a : Nat) (b : Byte)
    (h : m.Pairwise (fun c d => c.1 < d.1)) : (m.store a b).Pairwise (fun c d => c.1 < d.1) := by
  induction m with
  | nil => simp [Memory.store]
  | cons c rest ih =>
    obtain ⟨hc, hr⟩ := List.pairwise_cons.mp h
    simp only [Memory.store]
    split
    · rename_i hlt
      refine List.pairwise_cons.mpr ⟨fun d hd => ?_, h⟩
      rcases List.mem_cons.mp hd with rfl | hd
      · exact hlt
      · exact hlt.trans (hc d hd)
    · split
      · rename_i heq
        exact List.pairwise_cons.mpr ⟨fun d hd => heq ▸ hc d hd, hr⟩
      · rename_i hlt hne
        refine List.pairwise_cons.mpr ⟨fun d hd => ?_, ih hr⟩
        rcases Memory.mem_store hd with rfl | hd
        · exact lt_of_le_of_ne (not_lt.mp hlt) hne
        · exact hc d hd

/-- Storing one byte keeps the canonical form. -/
theorem Memory.store_wf {m : Memory} (h : m.wf) {a : Nat} (ha : a < 2 ^ 32) (b : Byte) :
    (m.store a b).wf :=
  ⟨Memory.store_pairwise a b h.1, fun c hc => by
    rcases Memory.mem_store hc with rfl | hc
    · exact ha
    · exact h.2 c hc⟩

/-- Storing a byte string keeps the canonical form. -/
theorem Memory.storeBytes_wf {m : Memory} (h : m.wf) (addr : Word) (bytes : List Byte) :
    (m.storeBytes addr bytes).wf := by
  induction bytes generalizing m addr with
  | nil => exact h
  | cons b rest ih => exact ih (Memory.store_wf h addr.isLt b) _

/-- Storing a byte string leaves every address outside the string alone (R37, R41). -/
theorem Memory.byteAt_storeBytes_outside (m : Memory) (addr : Word) (bytes : List Byte) (x : Nat)
    (h : ∀ i, i < bytes.length → x ≠ (addr + BitVec.ofNat 32 i).toNat) :
    (m.storeBytes addr bytes).byteAt x = m.byteAt x := by
  induction bytes generalizing m addr with
  | nil => rfl
  | cons b rest ih =>
    have h0 : x ≠ addr.toNat := by simpa using h 0 (by simp)
    rw [Memory.storeBytes, ih, Memory.byteAt_store, if_neg h0]
    intro i hi
    have := h (i + 1) (by simpa using hi)
    rwa [show addr + BitVec.ofNat 32 (i + 1) = addr + 1 + BitVec.ofNat 32 i by
      rw [BitVec.ofNat_add, BitVec.add_assoc, BitVec.add_comm (BitVec.ofNat 32 i)]; rfl] at this

/-- Storing a byte string shorter than the address space puts byte `i` at `addr + i` (R37, R41). -/
theorem Memory.byteAt_storeBytes (m : Memory) (addr : Word) (bytes : List Byte)
    (hlen : bytes.length ≤ 2 ^ 32) (i : Nat) (hi : i < bytes.length) :
    (m.storeBytes addr bytes).byteAt (addr + BitVec.ofNat 32 i).toNat = some bytes[i] := by
  induction bytes generalizing m addr i with
  | nil => simp at hi
  | cons b rest ih =>
    simp only [List.length_cons] at hlen hi
    cases i with
    | zero =>
      rw [Memory.storeBytes, Memory.byteAt_storeBytes_outside]
      · simp
      · intro j hj h
        have h1 : addr + BitVec.ofNat 32 0 = addr + 1 + BitVec.ofNat 32 j := BitVec.eq_of_toNat_eq h
        have h2 : (addr + BitVec.ofNat 32 0).toNat = (addr + 1 + BitVec.ofNat 32 j).toNat := congrArg _ h1
        have := addr.isLt
        simp only [BitVec.toNat_add, BitVec.toNat_ofNat, show (1 : Word).toNat = 1 from rfl] at h2
        norm_num at h2
        omega
    | succ i =>
      rw [Memory.storeBytes]
      rw [show addr + BitVec.ofNat 32 (i + 1) = addr + 1 + BitVec.ofNat 32 i by
        rw [BitVec.ofNat_add, BitVec.add_assoc, BitVec.add_comm (BitVec.ofNat 32 i)]; rfl]
      exact ih (m.store addr.toNat b) (addr + 1) (by omega) i (by omega)

/-- A bus read answers as many bytes as were asked for (R133). -/
@[simp] theorem Memory.fetchBytes_length (m : Memory) (addr : Word) (d n : Nat) :
    (m.fetchBytes addr d n).length = n := by
  induction n generalizing addr d with
  | zero => rfl
  | succ n ih => simp [Memory.fetchBytes, ih]

/-- Byte `i` of a bus read is the byte at `addr + i`, or a free byte where memory holds none (R35, R37). -/
theorem Memory.fetchBytes_getElem (m : Memory) (addr : Word) (d n i : Nat) (hi : i < n) :
    (m.fetchBytes addr d n)[i]'(by simpa using hi)
      = (m.byteAt (addr + BitVec.ofNat 32 i).toNat).getD (Config.freeByte (d + i)) := by
  induction n generalizing addr d i with
  | zero => omega
  | succ n ih =>
    cases i with
    | zero => simp [Memory.fetchBytes]
    | succ i =>
      simp only [Memory.fetchBytes, List.getElem_cons_succ]
      rw [ih _ _ _ (by omega), show addr + BitVec.ofNat 32 (i + 1) = addr + 1 + BitVec.ofNat 32 i by
        rw [BitVec.ofNat_add, BitVec.add_assoc, BitVec.add_comm (BitVec.ofNat 32 i)]; rfl,
        Nat.add_right_comm, Nat.add_assoc]

/-- Nothing written: the reset memory has the canonical form. -/
theorem Memory.wf_nil : Memory.wf [] := by simp [Memory.wf]

/-- `MemWrite` keeps the canonical form. -/
theorem State.memWrite_wf {s : State} (h : s.mem.wf) (addr : Word) (v : List Byte) :
    (s.memWrite addr v).mem.wf := by
  unfold State.memWrite
  split
  · exact h
  · exact Memory.storeBytes_wf h addr v

end Sys2Proof.Machine
end

