-- ==== Sys2Proof/Laws/Dma.lean ====
section
/-! SUPPORT. What each operation of the transfers can do, field by field, so that no proof unfolds one again: the
primitives of R10, the TX transfer (R138), the CSR write (R121), the RX delivery (R151). -/

namespace Sys2Proof.Machine

/-! ## Lengths and padding (R142 to R144) -/

/-- R142: the rounded length is at least the length, a multiple of 32, and less than 32 above it. -/
theorem ceil32_spec (n : Nat) : n ≤ ceil32 n ∧ ceil32 n < n + 32 ∧ ceil32 n % 32 = 0 := by
  unfold ceil32 rxAlign
  omega

@[simp] theorem padding_length (buffer : List Byte) (d k : Nat) : (padding buffer d k).length = k := by
  induction k generalizing buffer d with
  | zero => rfl
  | succ k ih => cases buffer <;> simp [padding, ih]

/-- R144: an RX transfer writes `ceil32(N)` bytes. -/
@[simp] theorem rxBytes_length (pkt buffer : List Byte) (d : Nat) :
    (rxBytes pkt buffer d).length = ceil32 pkt.length := by
  have := ceil32_spec pkt.length
  simp only [rxBytes, List.length_append, padding_length]
  omega

/-- The padding takes the bytes the backend supplies, as far as they go (R143). -/
theorem padding_getElem_of_lt (buffer : List Byte) (d k i : Nat) (hi : i < k) (hb : i < buffer.length) :
    (padding buffer d k)[i]'(by simpa using hi) = buffer[i] := by
  induction k generalizing buffer i with
  | zero => omega
  | succ k ih =>
    cases buffer with
    | nil => simp at hb
    | cons b rest =>
      cases i with
      | zero => rfl
      | succ i => simpa [padding] using ih rest i (by omega) (by simpa using hb)

/-! ## The primitives of R10 -/

@[simp] theorem State.memRead_tx (s : State) (a : Word) (n : Nat) :
    (s.memRead a n).tx = s.tx := by
  unfold State.memRead; split <;> rfl

@[simp] theorem State.memRead_rx (s : State) (a : Word) (n : Nat) :
    (s.memRead a n).rx = s.rx := by
  unfold State.memRead; split <;> rfl

@[simp] theorem State.memRead_txStat (s : State) (a : Word) (n : Nat) :
    (s.memRead a n).txStat = s.txStat := by
  unfold State.memRead; split <;> rfl

@[simp] theorem State.memRead_txMask (s : State) (a : Word) (n : Nat) :
    (s.memRead a n).txMask = s.txMask := by
  unfold State.memRead; split <;> rfl

@[simp] theorem State.memRead_txMode (s : State) (a : Word) (n : Nat) :
    (s.memRead a n).txMode = s.txMode := by
  unfold State.memRead; split <;> rfl

@[simp] theorem State.memRead_rxStat (s : State) (a : Word) (n : Nat) :
    (s.memRead a n).rxStat = s.rxStat := by
  unfold State.memRead; split <;> rfl

@[simp] theorem State.memRead_rxMask (s : State) (a : Word) (n : Nat) :
    (s.memRead a n).rxMask = s.rxMask := by
  unfold State.memRead; split <;> rfl

@[simp] theorem State.memRead_rxMode (s : State) (a : Word) (n : Nat) :
    (s.memRead a n).rxMode = s.rxMode := by
  unfold State.memRead; split <;> rfl

@[simp] theorem State.memRead_rstMode (s : State) (a : Word) (n : Nat) :
    (s.memRead a n).rstMode = s.rstMode := by
  unfold State.memRead; split <;> rfl

@[simp] theorem State.memRead_mac (s : State) (a : Word) (n : Nat) :
    (s.memRead a n).mac = s.mac := by
  unfold State.memRead; split <;> rfl

@[simp] theorem State.memRead_irq (s : State) (a : Word) (n : Nat) :
    (s.memRead a n).irq = s.irq := by
  unfold State.memRead; split <;> rfl

@[simp] theorem State.memRead_sinkLines (s : State) (a : Word) (n : Nat) :
    (s.memRead a n).sinkLines = s.sinkLines := by
  unfold State.memRead; split <;> rfl

@[simp] theorem State.memRead_mem (s : State) (a : Word) (n : Nat) :
    (s.memRead a n).mem = s.mem := by
  unfold State.memRead; split <;> rfl

@[simp] theorem State.memRead_history (s : State) (a : Word) (n : Nat) :
    (s.memRead a n).history = s.history ++ (if n = 0 then [] else [.busRead a n (s.memReadBytes a n)]) := by
  unfold State.memRead; split <;> simp [*]

@[simp] theorem State.memRead_pending (s : State) (a : Word) (n : Nat) :
    (s.memRead a n).pending = s.pending := by
  unfold State.memRead; split <;> rfl

@[simp] theorem State.memRead_draws (s : State) (a : Word) (n : Nat) :
    (s.memRead a n).draws = s.draws + n := by
  unfold State.memRead; split <;> simp [*]

@[simp] theorem State.memWrite_tx (s : State) (a : Word) (v : List Byte) :
    (s.memWrite a v).tx = s.tx := by
  unfold State.memWrite; split <;> rfl

@[simp] theorem State.memWrite_rx (s : State) (a : Word) (v : List Byte) :
    (s.memWrite a v).rx = s.rx := by
  unfold State.memWrite; split <;> rfl

@[simp] theorem State.memWrite_txStat (s : State) (a : Word) (v : List Byte) :
    (s.memWrite a v).txStat = s.txStat := by
  unfold State.memWrite; split <;> rfl

@[simp] theorem State.memWrite_txMask (s : State) (a : Word) (v : List Byte) :
    (s.memWrite a v).txMask = s.txMask := by
  unfold State.memWrite; split <;> rfl

@[simp] theorem State.memWrite_txMode (s : State) (a : Word) (v : List Byte) :
    (s.memWrite a v).txMode = s.txMode := by
  unfold State.memWrite; split <;> rfl

@[simp] theorem State.memWrite_rxStat (s : State) (a : Word) (v : List Byte) :
    (s.memWrite a v).rxStat = s.rxStat := by
  unfold State.memWrite; split <;> rfl

@[simp] theorem State.memWrite_rxMask (s : State) (a : Word) (v : List Byte) :
    (s.memWrite a v).rxMask = s.rxMask := by
  unfold State.memWrite; split <;> rfl

@[simp] theorem State.memWrite_rxMode (s : State) (a : Word) (v : List Byte) :
    (s.memWrite a v).rxMode = s.rxMode := by
  unfold State.memWrite; split <;> rfl

@[simp] theorem State.memWrite_rstMode (s : State) (a : Word) (v : List Byte) :
    (s.memWrite a v).rstMode = s.rstMode := by
  unfold State.memWrite; split <;> rfl

@[simp] theorem State.memWrite_mac (s : State) (a : Word) (v : List Byte) :
    (s.memWrite a v).mac = s.mac := by
  unfold State.memWrite; split <;> rfl

@[simp] theorem State.memWrite_irq (s : State) (a : Word) (v : List Byte) :
    (s.memWrite a v).irq = s.irq := by
  unfold State.memWrite; split <;> rfl

@[simp] theorem State.memWrite_sinkLines (s : State) (a : Word) (v : List Byte) :
    (s.memWrite a v).sinkLines = s.sinkLines := by
  unfold State.memWrite; split <;> rfl

@[simp] theorem State.memWrite_mem (s : State) (a : Word) (v : List Byte) :
    (s.memWrite a v).mem = s.mem.storeBytes a v := by
  unfold State.memWrite; split <;> simp_all [Memory.storeBytes]

@[simp] theorem State.memWrite_history (s : State) (a : Word) (v : List Byte) :
    (s.memWrite a v).history = s.history ++ (if v = [] then [] else [.busWrite a v]) := by
  unfold State.memWrite; split <;> simp [*]

@[simp] theorem State.memWrite_pending (s : State) (a : Word) (v : List Byte) :
    (s.memWrite a v).pending = s.pending := by
  unfold State.memWrite; split <;> rfl

@[simp] theorem State.memWrite_draws (s : State) (a : Word) (v : List Byte) :
    (s.memWrite a v).draws = s.draws := by
  unfold State.memWrite; split <;> rfl

/-! ## The default address (R90) -/

@[simp] theorem State.macDefaultIfUnset_tx (s : State) :
    (s.macDefaultIfUnset).tx = s.tx := by
  unfold State.macDefaultIfUnset; split <;> rfl

@[simp] theorem State.macDefaultIfUnset_rx (s : State) :
    (s.macDefaultIfUnset).rx = s.rx := by
  unfold State.macDefaultIfUnset; split <;> rfl

@[simp] theorem State.macDefaultIfUnset_txStat (s : State) :
    (s.macDefaultIfUnset).txStat = s.txStat := by
  unfold State.macDefaultIfUnset; split <;> rfl

@[simp] theorem State.macDefaultIfUnset_txMask (s : State) :
    (s.macDefaultIfUnset).txMask = s.txMask := by
  unfold State.macDefaultIfUnset; split <;> rfl

@[simp] theorem State.macDefaultIfUnset_txMode (s : State) :
    (s.macDefaultIfUnset).txMode = s.txMode := by
  unfold State.macDefaultIfUnset; split <;> rfl

@[simp] theorem State.macDefaultIfUnset_rxStat (s : State) :
    (s.macDefaultIfUnset).rxStat = s.rxStat := by
  unfold State.macDefaultIfUnset; split <;> rfl

@[simp] theorem State.macDefaultIfUnset_rxMask (s : State) :
    (s.macDefaultIfUnset).rxMask = s.rxMask := by
  unfold State.macDefaultIfUnset; split <;> rfl

@[simp] theorem State.macDefaultIfUnset_rxMode (s : State) :
    (s.macDefaultIfUnset).rxMode = s.rxMode := by
  unfold State.macDefaultIfUnset; split <;> rfl

@[simp] theorem State.macDefaultIfUnset_rstMode (s : State) :
    (s.macDefaultIfUnset).rstMode = s.rstMode := by
  unfold State.macDefaultIfUnset; split <;> rfl

@[simp] theorem State.macDefaultIfUnset_mac (s : State) :
    (s.macDefaultIfUnset).mac = if Mac.unset s.mac then defaultMac s.draws else s.mac := by
  unfold State.macDefaultIfUnset; split <;> rfl

@[simp] theorem State.macDefaultIfUnset_irq (s : State) :
    (s.macDefaultIfUnset).irq = s.irq := by
  unfold State.macDefaultIfUnset; split <;> rfl

@[simp] theorem State.macDefaultIfUnset_sinkLines (s : State) :
    (s.macDefaultIfUnset).sinkLines = s.sinkLines := by
  unfold State.macDefaultIfUnset; split <;> rfl

@[simp] theorem State.macDefaultIfUnset_mem (s : State) :
    (s.macDefaultIfUnset).mem = s.mem := by
  unfold State.macDefaultIfUnset; split <;> rfl

@[simp] theorem State.macDefaultIfUnset_history (s : State) :
    (s.macDefaultIfUnset).history = s.history := by
  unfold State.macDefaultIfUnset; split <;> rfl

@[simp] theorem State.macDefaultIfUnset_pending (s : State) :
    (s.macDefaultIfUnset).pending = s.pending := by
  unfold State.macDefaultIfUnset; split <;> rfl

@[simp] theorem State.macDefaultIfUnset_draws (s : State) :
    (s.macDefaultIfUnset).draws = if Mac.unset s.mac then s.draws + 6 else s.draws := by
  unfold State.macDefaultIfUnset; split <;> rfl

/-! ## The TX transfer (R133 to R138) -/

@[simp] theorem txComplete_tx (P : Params) (len : Nat) (s : State) :
    (txComplete P len s).tx = { s.tx with csr := csrTxDone P.layout s.tx.csr } := by
  simp [txComplete]

@[simp] theorem txComplete_rx (P : Params) (len : Nat) (s : State) :
    (txComplete P len s).rx = s.rx := by
  simp [txComplete]

@[simp] theorem txComplete_txStat (P : Params) (len : Nat) (s : State) :
    (txComplete P len s).txStat = statIdle := by
  simp [txComplete]

@[simp] theorem txComplete_txMask (P : Params) (len : Nat) (s : State) :
    (txComplete P len s).txMask = s.txMask := by
  simp [txComplete]

@[simp] theorem txComplete_txMode (P : Params) (len : Nat) (s : State) :
    (txComplete P len s).txMode = s.txMode := by
  simp [txComplete]

@[simp] theorem txComplete_rxStat (P : Params) (len : Nat) (s : State) :
    (txComplete P len s).rxStat = s.rxStat := by
  simp [txComplete]

@[simp] theorem txComplete_rxMask (P : Params) (len : Nat) (s : State) :
    (txComplete P len s).rxMask = s.rxMask := by
  simp [txComplete]

@[simp] theorem txComplete_rxMode (P : Params) (len : Nat) (s : State) :
    (txComplete P len s).rxMode = s.rxMode := by
  simp [txComplete]

@[simp] theorem txComplete_rstMode (P : Params) (len : Nat) (s : State) :
    (txComplete P len s).rstMode = s.rstMode := by
  simp [txComplete]

@[simp] theorem txComplete_mac (P : Params) (len : Nat) (s : State) :
    (txComplete P len s).mac = s.mac := by
  simp [txComplete]

@[simp] theorem txComplete_irq (P : Params) (len : Nat) (s : State) :
    (txComplete P len s).irq = s.irq.assert .txDma := by
  simp [txComplete]

@[simp] theorem txComplete_sinkLines (P : Params) (len : Nat) (s : State) :
    (txComplete P len s).sinkLines = s.sinkLines.assert .txDma := by
  simp [txComplete]

@[simp] theorem txComplete_mem (P : Params) (len : Nat) (s : State) :
    (txComplete P len s).mem = s.mem := by
  simp [txComplete]

@[simp] theorem txComplete_history (P : Params) (len : Nat) (s : State) :
    (txComplete P len s).history = s.history ++ (if len = 0 then [] else [.busRead s.tx.base len (s.memReadBytes s.tx.base len)])
      ++ [.netSend (s.memReadBytes s.tx.base len)] ++ [.irq .txDma] := by
  simp [txComplete]

@[simp] theorem txComplete_pending (P : Params) (len : Nat) (s : State) :
    (txComplete P len s).pending = s.pending := by
  simp [txComplete]

@[simp] theorem txComplete_draws (P : Params) (len : Nat) (s : State) :
    (txComplete P len s).draws = s.draws + len := by
  simp [txComplete]

@[simp] theorem txTransfer_tx (P : Params) (s : State) :
    (txTransfer P s).tx = if P.txBufCapacity < txLength P s.tx then s.tx else { s.tx with csr := csrTxDone P.layout s.tx.csr } := by
  unfold txTransfer; split <;> simp

@[simp] theorem txTransfer_rx (P : Params) (s : State) :
    (txTransfer P s).rx = s.rx := by
  unfold txTransfer; split <;> simp

@[simp] theorem txTransfer_txStat (P : Params) (s : State) :
    (txTransfer P s).txStat = if P.txBufCapacity < txLength P s.tx then s.txStat else statIdle := by
  unfold txTransfer; split <;> simp

@[simp] theorem txTransfer_txMask (P : Params) (s : State) :
    (txTransfer P s).txMask = s.txMask := by
  unfold txTransfer; split <;> simp

@[simp] theorem txTransfer_txMode (P : Params) (s : State) :
    (txTransfer P s).txMode = s.txMode := by
  unfold txTransfer; split <;> simp

@[simp] theorem txTransfer_rxStat (P : Params) (s : State) :
    (txTransfer P s).rxStat = s.rxStat := by
  unfold txTransfer; split <;> simp

@[simp] theorem txTransfer_rxMask (P : Params) (s : State) :
    (txTransfer P s).rxMask = s.rxMask := by
  unfold txTransfer; split <;> simp

@[simp] theorem txTransfer_rxMode (P : Params) (s : State) :
    (txTransfer P s).rxMode = s.rxMode := by
  unfold txTransfer; split <;> simp

@[simp] theorem txTransfer_rstMode (P : Params) (s : State) :
    (txTransfer P s).rstMode = s.rstMode := by
  unfold txTransfer; split <;> simp

@[simp] theorem txTransfer_mac (P : Params) (s : State) :
    (txTransfer P s).mac = s.mac := by
  unfold txTransfer; split <;> simp

@[simp] theorem txTransfer_irq (P : Params) (s : State) :
    (txTransfer P s).irq = if P.txBufCapacity < txLength P s.tx then s.irq else s.irq.assert .txDma := by
  unfold txTransfer; split <;> simp

@[simp] theorem txTransfer_sinkLines (P : Params) (s : State) :
    (txTransfer P s).sinkLines = if P.txBufCapacity < txLength P s.tx then s.sinkLines else s.sinkLines.assert .txDma := by
  unfold txTransfer; split <;> simp

@[simp] theorem txTransfer_mem (P : Params) (s : State) :
    (txTransfer P s).mem = s.mem := by
  unfold txTransfer; split <;> simp

@[simp] theorem txTransfer_history (P : Params) (s : State) :
    (txTransfer P s).history = if P.txBufCapacity < txLength P s.tx then s.history ++ [.txRejected (txLength P s.tx)]
      else (txComplete P (txLength P s.tx) s).history := by
  unfold txTransfer; split <;> simp

@[simp] theorem txTransfer_pending (P : Params) (s : State) :
    (txTransfer P s).pending = s.pending := by
  unfold txTransfer; split <;> simp

@[simp] theorem txTransfer_draws (P : Params) (s : State) :
    (txTransfer P s).draws = if P.txBufCapacity < txLength P s.tx then s.draws else s.draws + txLength P s.tx := by
  unfold txTransfer; split <;> simp

/-! ## The CSR write (R121 to R126) -/

@[simp] theorem onCommand_pos {v mask : Word} (h : hits v mask = true) (f : State → State) (s : State) :
    onCommand v mask f s = f s := by simp [onCommand, h]

@[simp] theorem onCommand_neg {v mask : Word} (h : hits v mask = false) (f : State → State) (s : State) :
    onCommand v mask f s = s := by simp [onCommand, h]

/-- The four steps of R121 on a CSR alone, without what a TX transfer adds. -/
def csrCommanded (L : CsrLayout) (v c : Word) : Word :=
  let c := if hits v L.cmdReset then csrCleared L c else c
  let c := if hits v L.cmdSetEnable then csrEnabled L c else c
  let c := if hits v L.cmdSetSupdate then csrUpdateLatched L c else c
  if hits v L.cmdClrComplete then csrAcknowledged L c else c

/-- R128: an RX CSR write changes the RX CSR and nothing else. -/
theorem csrWrite_rx (P : Params) (v : Word) (s : State) :
    csrWrite P .rx v s = s.setRx { s.rx with csr := csrCommanded P.layout v s.rx.csr } := by
  simp only [csrWrite, onCommand, csrCommanded]
  cases hits v P.layout.cmdReset <;> cases hits v P.layout.cmdSetEnable <;>
    cases hits v P.layout.cmdSetSupdate <;> cases hits v P.layout.cmdClrComplete <;> rfl

/-- R121: a TX CSR write without SETENABLE changes the TX CSR and nothing else. -/
theorem csrWrite_tx_idle (P : Params) (v : Word) (s : State) (h : hits v P.layout.cmdSetEnable = false) :
    csrWrite P .tx v s = s.setTx { s.tx with csr := csrCommanded P.layout v s.tx.csr } := by
  simp only [csrWrite, onCommand, csrCommanded, h]
  cases hits v P.layout.cmdReset <;>
    cases hits v P.layout.cmdSetSupdate <;> cases hits v P.layout.cmdClrComplete <;> rfl

/-- The TX CSR after RESET, as the later steps find it (R121, R122). -/
def csrAfterReset (L : CsrLayout) (v c : Word) : Word :=
  if hits v L.cmdReset then csrCleared L c else c

/-- The TX CSR after the steps that follow the transfer (R124, R125). -/
def csrAfterTransfer (L : CsrLayout) (v c : Word) : Word :=
  let c := if hits v L.cmdSetSupdate then csrUpdateLatched L c else c
  if hits v L.cmdClrComplete then csrAcknowledged L c else c

/-- R121, R123: a TX CSR write with SETENABLE runs one transfer on the state RESET and ENABLE left, and the steps
after it touch only the CSR. -/
theorem csrWrite_tx_enable (P : Params) (v : Word) (s : State) (h : hits v P.layout.cmdSetEnable = true) :
    csrWrite P .tx v s =
      let r := txTransfer P (s.setTx { s.tx with csr := csrEnabled P.layout (csrAfterReset P.layout v s.tx.csr) })
      r.setTx { r.tx with csr := csrAfterTransfer P.layout v r.tx.csr } := by
  simp only [csrWrite, onCommand, csrAfterReset, csrAfterTransfer, h]
  cases hits v P.layout.cmdReset <;>
    cases hits v P.layout.cmdSetSupdate <;> cases hits v P.layout.cmdClrComplete <;> rfl

/-- A TX transfer longer than the capacity is rejected and leaves only its event (R131, R132). -/
theorem txTransfer_rejected {P : Params} {s : State} (h : P.txBufCapacity < txLength P s.tx) :
    txTransfer P s = s.record (.txRejected (txLength P s.tx)) := if_pos h

/-- A TX transfer within the capacity runs steps 2 to 5 (R133 to R136). -/
theorem txTransfer_within {P : Params} {s : State} (h : txLength P s.tx ≤ P.txBufCapacity) :
    txTransfer P s = txComplete P (txLength P s.tx) s := if_neg (Nat.not_lt.mpr h)

/-- The length of a TX transfer does not depend on the CSR (R130). -/
@[simp] theorem txLength_setCsr (P : Params) (c : DmaChannel) (v : Word) :
    txLength P { c with csr := v } = txLength P c := rfl

/-! ## The RX delivery (R141 to R151) -/

@[simp] theorem rxStore_tx (pkt buffer : List Byte) (s : State) :
    (rxStore pkt buffer s).tx = s.tx := by
  simp [rxStore]

@[simp] theorem rxStore_rx (pkt buffer : List Byte) (s : State) :
    (rxStore pkt buffer s).rx = s.rx := by
  simp [rxStore]

@[simp] theorem rxStore_txStat (pkt buffer : List Byte) (s : State) :
    (rxStore pkt buffer s).txStat = s.txStat := by
  simp [rxStore]

@[simp] theorem rxStore_txMask (pkt buffer : List Byte) (s : State) :
    (rxStore pkt buffer s).txMask = s.txMask := by
  simp [rxStore]

@[simp] theorem rxStore_txMode (pkt buffer : List Byte) (s : State) :
    (rxStore pkt buffer s).txMode = s.txMode := by
  simp [rxStore]

@[simp] theorem rxStore_rxStat (pkt buffer : List Byte) (s : State) :
    (rxStore pkt buffer s).rxStat = s.rxStat := by
  simp [rxStore]

@[simp] theorem rxStore_rxMask (pkt buffer : List Byte) (s : State) :
    (rxStore pkt buffer s).rxMask = s.rxMask := by
  simp [rxStore]

@[simp] theorem rxStore_rxMode (pkt buffer : List Byte) (s : State) :
    (rxStore pkt buffer s).rxMode = s.rxMode := by
  simp [rxStore]

@[simp] theorem rxStore_rstMode (pkt buffer : List Byte) (s : State) :
    (rxStore pkt buffer s).rstMode = s.rstMode := by
  simp [rxStore]

@[simp] theorem rxStore_mac (pkt buffer : List Byte) (s : State) :
    (rxStore pkt buffer s).mac = s.mac := by
  simp [rxStore]

@[simp] theorem rxStore_irq (pkt buffer : List Byte) (s : State) :
    (rxStore pkt buffer s).irq = s.irq := by
  simp [rxStore]

@[simp] theorem rxStore_sinkLines (pkt buffer : List Byte) (s : State) :
    (rxStore pkt buffer s).sinkLines = s.sinkLines := by
  simp [rxStore]

@[simp] theorem rxStore_mem (pkt buffer : List Byte) (s : State) :
    (rxStore pkt buffer s).mem = s.mem.storeBytes s.rx.base (rxBytes pkt buffer s.draws) := by
  simp [rxStore]

@[simp] theorem rxStore_history (pkt buffer : List Byte) (s : State) :
    (rxStore pkt buffer s).history = s.history ++ (if rxBytes pkt buffer s.draws = [] then []
      else [.busWrite s.rx.base (rxBytes pkt buffer s.draws)]) := by
  simp [rxStore]

@[simp] theorem rxStore_pending (pkt buffer : List Byte) (s : State) :
    (rxStore pkt buffer s).pending = s.pending := by
  simp [rxStore]

@[simp] theorem rxStore_draws (pkt buffer : List Byte) (s : State) :
    (rxStore pkt buffer s).draws = s.draws + paddingDraws buffer (ceil32 pkt.length - pkt.length) := by
  simp [rxStore]

@[simp] theorem rxAdoptChain_tx (P : Params) (s : State) :
    (rxAdoptChain P s).tx = s.tx := by
  unfold rxAdoptChain; split <;> rfl

@[simp] theorem rxAdoptChain_rx (P : Params) (s : State) :
    (rxAdoptChain P s).rx = if hits s.rx.csr P.layout.supdate then
      { s.rx with
        base := s.rx.chainbase
        limit := s.rx.chainlimit
        csr := if P.rxSupdateAutoclear then csrChainTaken P.layout s.rx.csr else s.rx.csr }
    else s.rx := by
  unfold rxAdoptChain; split <;> rfl

/-- With the model's parameters an adoption leaves the CSR as it was (R147, D5). -/
@[simp] theorem rxAdoptChain_params_csr (s : State) : (rxAdoptChain params s).rx.csr = s.rx.csr := by
  unfold rxAdoptChain; split <;> rfl

@[simp] theorem rxAdoptChain_txStat (P : Params) (s : State) :
    (rxAdoptChain P s).txStat = s.txStat := by
  unfold rxAdoptChain; split <;> rfl

@[simp] theorem rxAdoptChain_txMask (P : Params) (s : State) :
    (rxAdoptChain P s).txMask = s.txMask := by
  unfold rxAdoptChain; split <;> rfl

@[simp] theorem rxAdoptChain_txMode (P : Params) (s : State) :
    (rxAdoptChain P s).txMode = s.txMode := by
  unfold rxAdoptChain; split <;> rfl

@[simp] theorem rxAdoptChain_rxStat (P : Params) (s : State) :
    (rxAdoptChain P s).rxStat = s.rxStat := by
  unfold rxAdoptChain; split <;> rfl

@[simp] theorem rxAdoptChain_rxMask (P : Params) (s : State) :
    (rxAdoptChain P s).rxMask = s.rxMask := by
  unfold rxAdoptChain; split <;> rfl

@[simp] theorem rxAdoptChain_rxMode (P : Params) (s : State) :
    (rxAdoptChain P s).rxMode = s.rxMode := by
  unfold rxAdoptChain; split <;> rfl

@[simp] theorem rxAdoptChain_rstMode (P : Params) (s : State) :
    (rxAdoptChain P s).rstMode = s.rstMode := by
  unfold rxAdoptChain; split <;> rfl

@[simp] theorem rxAdoptChain_mac (P : Params) (s : State) :
    (rxAdoptChain P s).mac = s.mac := by
  unfold rxAdoptChain; split <;> rfl

@[simp] theorem rxAdoptChain_irq (P : Params) (s : State) :
    (rxAdoptChain P s).irq = s.irq := by
  unfold rxAdoptChain; split <;> rfl

@[simp] theorem rxAdoptChain_sinkLines (P : Params) (s : State) :
    (rxAdoptChain P s).sinkLines = s.sinkLines := by
  unfold rxAdoptChain; split <;> rfl

@[simp] theorem rxAdoptChain_mem (P : Params) (s : State) :
    (rxAdoptChain P s).mem = s.mem := by
  unfold rxAdoptChain; split <;> rfl

@[simp] theorem rxAdoptChain_history (P : Params) (s : State) :
    (rxAdoptChain P s).history = s.history := by
  unfold rxAdoptChain; split <;> rfl

@[simp] theorem rxAdoptChain_pending (P : Params) (s : State) :
    (rxAdoptChain P s).pending = s.pending := by
  unfold rxAdoptChain; split <;> rfl

@[simp] theorem rxAdoptChain_draws (P : Params) (s : State) :
    (rxAdoptChain P s).draws = s.draws := by
  unfold rxAdoptChain; split <;> rfl

@[simp] theorem rxSaveWindow_tx (n : Nat) (s : State) :
    (rxSaveWindow n s).tx = s.tx := by
  rfl

@[simp] theorem rxSaveWindow_rx (n : Nat) (s : State) :
    (rxSaveWindow n s).rx = { s.rx with savedbase := s.rx.base, savedlimit := s.rx.base + BitVec.ofNat 32 n } := by
  rfl

@[simp] theorem rxSaveWindow_txStat (n : Nat) (s : State) :
    (rxSaveWindow n s).txStat = s.txStat := by
  rfl

@[simp] theorem rxSaveWindow_txMask (n : Nat) (s : State) :
    (rxSaveWindow n s).txMask = s.txMask := by
  rfl

@[simp] theorem rxSaveWindow_txMode (n : Nat) (s : State) :
    (rxSaveWindow n s).txMode = s.txMode := by
  rfl

@[simp] theorem rxSaveWindow_rxStat (n : Nat) (s : State) :
    (rxSaveWindow n s).rxStat = s.rxStat := by
  rfl

@[simp] theorem rxSaveWindow_rxMask (n : Nat) (s : State) :
    (rxSaveWindow n s).rxMask = s.rxMask := by
  rfl

@[simp] theorem rxSaveWindow_rxMode (n : Nat) (s : State) :
    (rxSaveWindow n s).rxMode = s.rxMode := by
  rfl

@[simp] theorem rxSaveWindow_rstMode (n : Nat) (s : State) :
    (rxSaveWindow n s).rstMode = s.rstMode := by
  rfl

@[simp] theorem rxSaveWindow_mac (n : Nat) (s : State) :
    (rxSaveWindow n s).mac = s.mac := by
  rfl

@[simp] theorem rxSaveWindow_irq (n : Nat) (s : State) :
    (rxSaveWindow n s).irq = s.irq := by
  rfl

@[simp] theorem rxSaveWindow_sinkLines (n : Nat) (s : State) :
    (rxSaveWindow n s).sinkLines = s.sinkLines := by
  rfl

@[simp] theorem rxSaveWindow_mem (n : Nat) (s : State) :
    (rxSaveWindow n s).mem = s.mem := by
  rfl

@[simp] theorem rxSaveWindow_history (n : Nat) (s : State) :
    (rxSaveWindow n s).history = s.history := by
  rfl

@[simp] theorem rxSaveWindow_pending (n : Nat) (s : State) :
    (rxSaveWindow n s).pending = s.pending := by
  rfl

@[simp] theorem rxSaveWindow_draws (n : Nat) (s : State) :
    (rxSaveWindow n s).draws = s.draws := by
  rfl

@[simp] theorem rxComplete_tx (P : Params) (s : State) :
    (rxComplete P s).tx = s.tx := by
  rfl

@[simp] theorem rxComplete_rx (P : Params) (s : State) :
    (rxComplete P s).rx = { s.rx with csr := csrRxDone P.layout s.rx.csr } := by
  rfl

@[simp] theorem rxComplete_txStat (P : Params) (s : State) :
    (rxComplete P s).txStat = s.txStat := by
  rfl

@[simp] theorem rxComplete_txMask (P : Params) (s : State) :
    (rxComplete P s).txMask = s.txMask := by
  rfl

@[simp] theorem rxComplete_txMode (P : Params) (s : State) :
    (rxComplete P s).txMode = s.txMode := by
  rfl

@[simp] theorem rxComplete_rxStat (P : Params) (s : State) :
    (rxComplete P s).rxStat = statIdle := by
  rfl

@[simp] theorem rxComplete_rxMask (P : Params) (s : State) :
    (rxComplete P s).rxMask = s.rxMask := by
  rfl

@[simp] theorem rxComplete_rxMode (P : Params) (s : State) :
    (rxComplete P s).rxMode = s.rxMode := by
  rfl

@[simp] theorem rxComplete_rstMode (P : Params) (s : State) :
    (rxComplete P s).rstMode = s.rstMode := by
  rfl

@[simp] theorem rxComplete_mac (P : Params) (s : State) :
    (rxComplete P s).mac = s.mac := by
  rfl

@[simp] theorem rxComplete_irq (P : Params) (s : State) :
    (rxComplete P s).irq = s.irq.assert .rxDma := by
  rfl

@[simp] theorem rxComplete_sinkLines (P : Params) (s : State) :
    (rxComplete P s).sinkLines = s.sinkLines.assert .rxDma := by
  rfl

@[simp] theorem rxComplete_mem (P : Params) (s : State) :
    (rxComplete P s).mem = s.mem := by
  rfl

@[simp] theorem rxComplete_history (P : Params) (s : State) :
    (rxComplete P s).history = s.history ++ [.irq .rxDma] := by
  rfl

@[simp] theorem rxComplete_pending (P : Params) (s : State) :
    (rxComplete P s).pending = s.pending := by
  rfl

@[simp] theorem rxComplete_draws (P : Params) (s : State) :
    (rxComplete P s).draws = s.draws := by
  rfl

/-- R141: with the gate closed a delivery leaves only its own event. -/
theorem rxDeliver_closed (P : Params) (pkt buffer : List Byte) (s : State) (h : gate s = false) :
    rxDeliver P pkt buffer s = s.record (.rxDeliver pkt .notAccepted) := by
  simp [rxDeliver, h]

/-- R151: with the gate open the whole transfer runs. -/
theorem rxDeliver_open (P : Params) (pkt buffer : List Byte) (s : State) (h : gate s = true) :
    rxDeliver P pkt buffer s = rxTransfer P pkt buffer (s.record (.rxDeliver pkt .accepted)) := by
  simp [rxDeliver, h]

/-- The fields a delivery never touches (R150). -/
theorem rxDeliver_frame (P : Params) (pkt buffer : List Byte) (s : State) :
    let t := rxDeliver P pkt buffer s
    t.tx = s.tx ∧ t.txStat = s.txStat ∧ t.txMask = s.txMask ∧ t.txMode = s.txMode ∧ t.rxMask = s.rxMask ∧
      t.rxMode = s.rxMode ∧ t.rstMode = s.rstMode ∧ t.mac = s.mac ∧ t.pending = s.pending := by
  unfold rxDeliver rxTransfer
  split <;> simp

end Sys2Proof.Machine
end

