-- ==== Sys2Proof/Laws/Flags.lean ====
section
/-! SUPPORT. The CSR bits one by one: what the test of a single-bit mask reads, for any well-formed layout and for the
default one (R18, R121). -/

namespace Sys2Proof.Machine

/-- The test of a single-bit mask reads that bit (R18, R121). -/
theorem hits_shift (v : Word) {k : Nat} (hk : k < 32) : hits v (1#32 <<< k) = v.getLsbD k := by
  rw [hits, ← BitVec.twoPow_eq, BitVec.and_twoPow]
  have h : BitVec.twoPow 32 k ≠ 0 := by
    intro h
    have := congrArg (·.getLsbD k) h
    simp [hk] at this
  cases v.getLsbD k
  · rfl
  · simpa [bne_iff_ne] using h

/-- A single-bit mask is a shifted one (R18). -/
theorem isSingleBit_iff (m : Word) : isSingleBit m = true ↔ ∃ k, k < 32 ∧ m = 1#32 <<< k := by
  simp [isSingleBit, List.any_eq_true, List.mem_range]

/-- The bits of a single-bit mask. -/
theorem getLsbD_shift_one (k i : Nat) (hi : i < 32) : (1#32 <<< k).getLsbD i = decide (i = k) := by
  rw [← BitVec.twoPow_eq, BitVec.getLsbD_twoPow]
  by_cases h : k = i
  · subst h; simp [hi]
  · simp [h, Ne.symm h]

@[simp] theorem hits_enable (v : Word) : hits v params.layout.enable = v.getLsbD 24 :=
  hits_shift v (k := 24) (by decide)

@[simp] theorem hits_supdate (v : Word) : hits v params.layout.supdate = v.getLsbD 25 :=
  hits_shift v (k := 25) (by decide)

@[simp] theorem hits_complete (v : Word) : hits v params.layout.complete = v.getLsbD 27 :=
  hits_shift v (k := 27) (by decide)

@[simp] theorem hits_cmdSetEnable (v : Word) : hits v params.layout.cmdSetEnable = v.getLsbD 16 :=
  hits_shift v (k := 16) (by decide)

@[simp] theorem hits_cmdSetSupdate (v : Word) : hits v params.layout.cmdSetSupdate = v.getLsbD 17 :=
  hits_shift v (k := 17) (by decide)

@[simp] theorem hits_cmdClrComplete (v : Word) : hits v params.layout.cmdClrComplete = v.getLsbD 19 :=
  hits_shift v (k := 19) (by decide)

@[simp] theorem hits_cmdReset (v : Word) : hits v params.layout.cmdReset = v.getLsbD 20 :=
  hits_shift v (k := 20) (by decide)

/-- The bits of the three state masks of the default layout (R18, D3). -/
theorem enable_bit {i : Nat} (hi : i < 32) : params.layout.enable.getLsbD i = decide (i = 24) :=
  getLsbD_shift_one 24 i hi

theorem supdate_bit {i : Nat} (hi : i < 32) : params.layout.supdate.getLsbD i = decide (i = 25) :=
  getLsbD_shift_one 25 i hi

theorem complete_bit {i : Nat} (hi : i < 32) : params.layout.complete.getLsbD i = decide (i = 27) :=
  getLsbD_shift_one 27 i hi

/-- Bit `i` after each change of a CSR, under any layout (R122 to R125, R135, R147, R148). -/
theorem csrCleared_bit (L : CsrLayout) (c : Word) {i : Nat} (hi : i < 32) :
    (csrCleared L c).getLsbD i =
      (c.getLsbD i && !(L.complete.getLsbD i || L.supdate.getLsbD i || L.enable.getLsbD i)) := by
  simp only [csrCleared, BitVec.getLsbD_and, BitVec.getLsbD_not, BitVec.getLsbD_or, hi, decide_true, Bool.true_and]

theorem csrEnabled_bit (L : CsrLayout) (c : Word) (i : Nat) :
    (csrEnabled L c).getLsbD i = (c.getLsbD i || L.enable.getLsbD i) := BitVec.getLsbD_or

theorem csrUpdateLatched_bit (L : CsrLayout) (c : Word) (i : Nat) :
    (csrUpdateLatched L c).getLsbD i = (c.getLsbD i || L.supdate.getLsbD i) := BitVec.getLsbD_or

theorem csrAcknowledged_bit (L : CsrLayout) (c : Word) {i : Nat} (hi : i < 32) :
    (csrAcknowledged L c).getLsbD i = (c.getLsbD i && !L.complete.getLsbD i) := by
  simp only [csrAcknowledged, BitVec.getLsbD_and, BitVec.getLsbD_not, hi, decide_true, Bool.true_and]

theorem csrChainTaken_bit (L : CsrLayout) (c : Word) {i : Nat} (hi : i < 32) :
    (csrChainTaken L c).getLsbD i = (c.getLsbD i && !L.supdate.getLsbD i) := by
  simp only [csrChainTaken, BitVec.getLsbD_and, BitVec.getLsbD_not, hi, decide_true, Bool.true_and]

theorem csrTxDone_bit (L : CsrLayout) (c : Word) (i : Nat) :
    (csrTxDone L c).getLsbD i = (c.getLsbD i || L.complete.getLsbD i || L.supdate.getLsbD i) := by
  simp only [csrTxDone, BitVec.getLsbD_or]

theorem csrRxDone_bit (L : CsrLayout) (c : Word) (i : Nat) :
    (csrRxDone L c).getLsbD i = (c.getLsbD i || L.complete.getLsbD i) := BitVec.getLsbD_or

/-- The three state masks of a well-formed layout are three different single bits (R18). -/
theorem CsrLayout.wellFormed_stateBits {L : CsrLayout} (h : L.wellFormed = true) :
    ∃ e u c, e < 32 ∧ u < 32 ∧ c < 32 ∧ e ≠ u ∧ e ≠ c ∧ u ≠ c ∧
      L.enable = 1#32 <<< e ∧ L.supdate = 1#32 <<< u ∧ L.complete = 1#32 <<< c := by
  simp only [CsrLayout.wellFormed, Bool.and_eq_true, List.all_cons, List.all_nil, isSingleBit_iff,
    decide_eq_true_eq] at h
  obtain ⟨⟨⟨⟨e, he, hE⟩, ⟨u, hu, hU⟩, ⟨c, hc, hC⟩, -⟩, distinct⟩, -⟩ := h
  refine ⟨e, u, c, he, hu, hc, ?_, ?_, ?_, hE, hU, hC⟩ <;> rintro rfl
  · simp [hE, hU] at distinct
  · simp [hE, hC] at distinct
  · simp [hU, hC] at distinct

/-- Bit `i` of a CSR after the four steps, under any layout. -/
theorem csrCommanded_bit (L : CsrLayout) (v c : Word) {i : Nat} (hi : i < 32) :
    (csrCommanded L v c).getLsbD i =
      (((c.getLsbD i && !(hits v L.cmdReset && (L.complete.getLsbD i || L.supdate.getLsbD i || L.enable.getLsbD i)))
        || (hits v L.cmdSetEnable && L.enable.getLsbD i) || (hits v L.cmdSetSupdate && L.supdate.getLsbD i))
        && !(hits v L.cmdClrComplete && L.complete.getLsbD i)) := by
  simp only [csrCommanded]
  cases hits v L.cmdReset <;> cases hits v L.cmdSetEnable <;> cases hits v L.cmdSetSupdate <;>
    cases hits v L.cmdClrComplete <;>
    simp only [if_true, if_false, Bool.false_eq_true, csrCleared_bit _ _ hi, csrEnabled_bit, csrUpdateLatched_bit,
      csrAcknowledged_bit _ _ hi, Bool.true_and, Bool.false_and, Bool.or_false, Bool.not_false, Bool.and_true]

/-- The gate reads bits 1:0 of RX mode (R139). -/
theorem gate_iff (s : State) : gate s = true ↔ s.rxMode.getLsbD 0 = true ∨ s.rxMode.getLsbD 1 = true := by
  have : ∀ m : Byte, (m &&& rxGateMask != 0) = (m.getLsbD 0 || m.getLsbD 1) := by decide
  rw [gate, this, Bool.or_eq_true]

end Sys2Proof.Machine
end

