-- ==== Sys2Proof/Laws/PerInstr.lean ====
section
/-! SUPPORT. One law per instruction as syntax: the word the encoder lays out is no reserved encoding (R63 steps 1 to
3), so the decoder looks it up in the table. -/

namespace Sys2Proof.Laws.Encodable

/-- The word of `i` passes steps 1 to 3 of R63. -/
def Statement (i : Instr) : Prop := reservedCheck (encode i).word = none

theorem rbTxStat : Statement .rbTxStat  := by unfold Statement; decide

theorem rbTxMask : Statement .rbTxMask  := by unfold Statement; decide

theorem rbRxStat : Statement .rbRxStat  := by unfold Statement; decide

theorem rbRxMask : Statement .rbRxMask  := by unfold Statement; decide

theorem rbTxMode : Statement .rbTxMode  := by unfold Statement; decide

theorem rbRxMode : Statement .rbRxMode  := by unfold Statement; decide

theorem rbRstMode : Statement .rbRstMode  := by unfold Statement; decide

theorem wbTxStat (v : Byte) : Statement (.wbTxStat v) := (by decide : reservedCheck 0x00096000 = none)

theorem wbTxMask (v : Byte) : Statement (.wbTxMask v) := (by decide : reservedCheck 0x00096001 = none)

theorem wbRxStat (v : Byte) : Statement (.wbRxStat v) := (by decide : reservedCheck 0x00096002 = none)

theorem wbRxMask (v : Byte) : Statement (.wbRxMask v) := (by decide : reservedCheck 0x00096003 = none)

theorem wbTxMode (v : Byte) : Statement (.wbTxMode v) := (by decide : reservedCheck 0x00096004 = none)

theorem wbRxMode (v : Byte) : Statement (.wbRxMode v) := (by decide : reservedCheck 0x00096005 = none)

theorem wbRstMode (v : Byte) : Statement (.wbRstMode v) := (by decide : reservedCheck 0x00096006 = none)

theorem wbMac0 (v : Byte) : Statement (.wbMac0 v) := (by decide : reservedCheck 0x00096008 = none)

theorem wbMac1 (v : Byte) : Statement (.wbMac1 v) := (by decide : reservedCheck 0x00096009 = none)

theorem wbMac2 (v : Byte) : Statement (.wbMac2 v) := (by decide : reservedCheck 0x0009600a = none)

theorem wbMac3 (v : Byte) : Statement (.wbMac3 v) := (by decide : reservedCheck 0x0009600b = none)

theorem wbMac4 (v : Byte) : Statement (.wbMac4 v) := (by decide : reservedCheck 0x0009600c = none)

theorem wbMac5 (v : Byte) : Statement (.wbMac5 v) := (by decide : reservedCheck 0x0009600d = none)

theorem rlTxCsr : Statement .rlTxCsr  := by unfold Statement; decide

theorem rlRxCsr : Statement .rlRxCsr  := by unfold Statement; decide

theorem rlTxSavedbase : Statement .rlTxSavedbase  := by unfold Statement; decide

theorem rlTxSavedlimit : Statement .rlTxSavedlimit  := by unfold Statement; decide

theorem rlTxBase : Statement .rlTxBase  := by unfold Statement; decide

theorem rlTxLimit : Statement .rlTxLimit  := by unfold Statement; decide

theorem rlTxBasew : Statement .rlTxBasew  := by unfold Statement; decide

theorem rlRxSavedbase : Statement .rlRxSavedbase  := by unfold Statement; decide

theorem rlRxSavedlimit : Statement .rlRxSavedlimit  := by unfold Statement; decide

theorem rlRxBase : Statement .rlRxBase  := by unfold Statement; decide

theorem rlRxLimit : Statement .rlRxLimit  := by unfold Statement; decide

theorem rlRxChainbase : Statement .rlRxChainbase  := by unfold Statement; decide

theorem rlRxChainlimit : Statement .rlRxChainlimit  := by unfold Statement; decide

theorem wlTxCsr (v : Word) : Statement (.wlTxCsr v) := (by decide : reservedCheck 0x000c0110 = none)

theorem wlRxCsr (v : Word) : Statement (.wlRxCsr v) := (by decide : reservedCheck 0x000c0150 = none)

theorem wlTxSavedbase (v : Word) : Statement (.wlTxSavedbase v) := (by decide : reservedCheck 0x000c4100 = none)

theorem wlTxSavedlimit (v : Word) : Statement (.wlTxSavedlimit v) := (by decide : reservedCheck 0x000c4104 = none)

theorem wlTxBase (v : Word) : Statement (.wlTxBase v) := (by decide : reservedCheck 0x000c4110 = none)

theorem wlTxLimit (v : Word) : Statement (.wlTxLimit v) := (by decide : reservedCheck 0x000c4114 = none)

theorem wlTxBasew (v : Word) : Statement (.wlTxBasew v) := (by decide : reservedCheck 0x000c4310 = none)

theorem wlRxSavedbase (v : Word) : Statement (.wlRxSavedbase v) := (by decide : reservedCheck 0x000c4140 = none)

theorem wlRxSavedlimit (v : Word) : Statement (.wlRxSavedlimit v) := (by decide : reservedCheck 0x000c4144 = none)

theorem wlRxBase (v : Word) : Statement (.wlRxBase v) := (by decide : reservedCheck 0x000c4150 = none)

theorem wlRxLimit (v : Word) : Statement (.wlRxLimit v) := (by decide : reservedCheck 0x000c4154 = none)

theorem wlRxChainbase (v : Word) : Statement (.wlRxChainbase v) := (by decide : reservedCheck 0x000c4158 = none)

theorem wlRxChainlimit (v : Word) : Statement (.wlRxChainlimit v) := (by decide : reservedCheck 0x000c415c = none)

theorem rxDeliver (pkt buffer : List Byte) : Statement (.rxDeliver pkt buffer) := (by decide : reservedCheck 0x00100000 = none)

theorem canAccept : Statement .canAccept  := by unfold Statement; decide

theorem rh (off : Offset) : Statement (.rh off) := reservedCheck_mmioWord _ _ _

theorem wh (off : Offset) (v : Half) : Statement (.wh off v) := reservedCheck_mmioWord _ _ _

theorem rbUnmapped (off : Offset) : Statement (.rbUnmapped off) := reservedCheck_mmioWord _ _ _

theorem wbUnmapped (off : Offset) (v : Byte) : Statement (.wbUnmapped off v) := reservedCheck_mmioWord _ _ _

theorem rlUnmapped (off : Offset) : Statement (.rlUnmapped off) := reservedCheck_mmioWord _ _ _

theorem wlUnmapped (off : Offset) (v : Word) : Statement (.wlUnmapped off v) := reservedCheck_mmioWord _ _ _

end Sys2Proof.Laws.Encodable
end

