-- ==== Sys2Proof/Laws/Step.lean ====
section
/-! SUPPORT. What a step can do: inversion of a delivered input and of a step, once for all. -/

namespace Sys2Proof.Machine

/-- A frame within the limit answers a next state, whatever the gate (R151). -/
theorem exec_rxDeliver_next {pkt buffer : List Byte} (s : State) (h : pkt.length ≤ params.maxRxFrame) :
    exec (.rxDeliver pkt buffer) s = .next (rxDeliver params pkt buffer s) := by
  simp [exec, execRxDeliver, Nat.not_lt.mpr h]

/-- A next state of a delivery comes from a frame within the limit (R151). -/
theorem exec_rxDeliver_inv {pkt buffer : List Byte} {s t : State} (h : exec (.rxDeliver pkt buffer) s = .next t) :
    pkt.length ≤ params.maxRxFrame ∧ t = rxDeliver params pkt buffer s := by
  simp only [exec, execRxDeliver] at h
  split at h
  · cases h
  · exact ⟨by omega, by cases h; rfl⟩

/-- What a delivered input that answers a next state did: it ran a decoded transaction, or stored bytes for another
agent, or lowered a line for the sink, or re-created the device. -/
theorem deliver_cases {d : Delivery} {s t : State} (h : deliver d s = .next t) :
    (∃ w o i, decode w o = .ok i ∧ exec i s = .next t) ∨
      (∃ addr bytes, d = .busStore addr bytes ∧ t = s.setMem (s.mem.storeBytes addr bytes)) ∨
      (∃ line, d = .deassert line ∧ t = s.deassertIrq line) ∨
      (d = .platformReset ∧ t = s.recreate) := by
  have run : ∀ tr : Transaction, runTransaction tr s = .next t →
      ∃ w o i, decode w o = .ok i ∧ exec i s = .next t := by
    intro tr h
    unfold runTransaction at h
    split at h
    · rename_i i hi
      exact ⟨_, _, i, hi, h⟩
    · cases h
  cases d with
  | transaction tr => exact .inl (run tr h)
  | physical win p width write value =>
    simp only [deliver, runPhysical] at h
    split at h
    · exact .inl (run _ h)
    · cases h
  | busStore addr bytes =>
    cases h
    exact .inr (.inl ⟨addr, bytes, rfl, rfl⟩)
  | deassert line =>
    cases h
    exact .inr (.inr (.inl ⟨line, rfl, rfl⟩))
  | platformReset =>
    cases h
    exact .inr (.inr (.inr ⟨rfl, rfl⟩))

/-- With an input waiting, a step delivers it to the state without it (R46). -/
theorem step_cons {s : State} {d : Delivery} {rest : List Delivery} (h : s.pending = d :: rest) :
    step s = deliver d (s.setPending rest) := by
  simp [step, State.takeInput, h]

/-- With no input waiting, a step changes nothing (R13). -/
theorem step_nil {s : State} (h : s.pending = []) : step s = .next s := by
  simp [step, State.takeInput, h]

/-- What a step that answers a next state did. -/
theorem step_cases {s t : State} (h : step s = .next t) :
    (s.pending = [] ∧ t = s) ∨
      ∃ d rest, s.pending = d :: rest ∧
        ((∃ w o i, decode w o = .ok i ∧ exec i (s.setPending rest) = .next t) ∨
          (∃ addr bytes, d = .busStore addr bytes ∧
            t = (s.setPending rest).setMem (s.mem.storeBytes addr bytes)) ∨
          (∃ line, d = .deassert line ∧ t = (s.setPending rest).deassertIrq line) ∨
          (d = .platformReset ∧ t = (s.setPending rest).recreate)) := by
  rcases hp : s.pending with _ | ⟨d, rest⟩
  · rw [step_nil hp] at h
    cases h
    exact .inl ⟨rfl, rfl⟩
  · rw [step_cons hp] at h
    exact .inr ⟨d, rest, rfl, deliver_cases h⟩

/-- Asserting a line sets its own level and no other (R24). -/
@[simp] theorem IrqLevels.level_assert (l : IrqLevels) (a b : IrqLine) :
    (l.assert a).level b = (decide (a = b) || l.level b) := by
  cases a <;> cases b <;> rfl

/-- The sink lowers the level of its line and no other (R54). -/
@[simp] theorem IrqLevels.level_deassert (l : IrqLevels) (a b : IrqLine) :
    (l.deassert a).level b = (!decide (a = b) && l.level b) := by
  cases a <;> cases b <;> rfl

/-- What a transaction does to the history and the lines: it appends events, and a line is high after it, in `S.irq` and
as the sink holds it, exactly when it was high or one of those events asserts it (R11, R24, R54). -/
theorem exec_levels {i : Instr} {s t : State} (h : exec i s = .next t) (line : IrqLine) :
    ∃ new, t.history = s.history ++ new ∧
      (t.irq.level line = true ↔ s.irq.level line = true ∨ Event.irq line ∈ new) ∧
      (t.sinkLines.level line = true ↔ s.sinkLines.level line = true ∨ Event.irq line ∈ new) := by
  cases i
  case wlTxCsr v =>
    simp only [exec, execWlTxCsr] at h; cases h
    cases hh : hits v params.layout.cmdSetEnable
    · rw [csrWrite_tx_idle _ _ _ hh]; exact ⟨[.mmioWrite 0x0110 .long v], rfl, by simp⟩
    · rw [csrWrite_tx_enable _ _ _ hh]
      by_cases hl : txLength params s.tx ≤ params.txBufCapacity
      · rw [txTransfer_within (by exact hl)]
        let n := txLength params s.tx
        let frame := s.memReadBytes s.tx.base n
        refine ⟨.mmioWrite 0x0110 .long v :: ((if n = 0 then [] else [.busRead s.tx.base n frame])
          ++ [.netSend frame, .irq .txDma]), ?_, ?_⟩
        · simp [State.memReadBytes, n, frame]
        · split <;> simp <;> cases line <;> simp
      · rw [txTransfer_rejected (by exact Nat.lt_of_not_le hl)]
        exact ⟨.mmioWrite 0x0110 .long v :: [.txRejected _], by simp; rfl, by simp⟩
  case wlRxCsr v =>
    simp only [exec, execWlRxCsr] at h; cases h
    rw [csrWrite_rx]; exact ⟨[.mmioWrite 0x0150 .long v], rfl, by simp⟩
  case wbMac5 v =>
    simp only [exec, execWbMac5] at h; cases h
    exact ⟨.mmioWrite 0x600d .byte (v.setWidth 32) :: [], by simp, by simp⟩
  case rxDeliver p b =>
    obtain ⟨h1, rfl⟩ := exec_rxDeliver_inv h
    by_cases g : gate s = true
    · rw [rxDeliver_open _ _ _ _ g]
      refine ⟨.rxDeliver p .accepted :: ((if rxBytes p b s.draws = [] then []
        else [.busWrite s.rx.base (rxBytes p b s.draws)]) ++ [.irq .rxDma]), by simp [rxTransfer]; rfl, ?_⟩
      simp [rxTransfer]; cases line <;> simp
    · rw [rxDeliver_closed _ _ _ _ (by simpa using g)]; exact ⟨[.rxDeliver p .notAccepted], rfl, by simp⟩
  all_goals
    cases h
    exact ⟨[_], rfl, by simp⟩

end Sys2Proof.Machine
end

