-- ==== Sys2Proof/Tests/Slice0.lean ====
section
/-! SUPPORT. The model's own tests. Expected results come from spec/95_test_vectors.md (each test names its vector) or,
for the words, from the opcode table of spec/30_encoding.md R64. Then one witness per statement that has hypotheses. -/

namespace Sys2Proof.Tests

open Sys2Proof.Machine Sys2Proof.Claims

/-! ## Helpers -/

/-- `S0` with the six MAC bytes known. -/
def s0 : State := { State.reset with mac := ⟨0, 0, 0, 0, 0, 0⟩ }

/-- The state after one transaction, if it answers one. -/
def after (i : Instr) (s : State) : Option State :=
  match exec i s with
  | .next t => some t
  | _ => none

/-- The state after one step, if it answers one. -/
def stepped (s : State) : Option State :=
  match step s with
  | .next t => some t
  | _ => none

/-- Why a step is refused, if it is. -/
def refusal (s : State) : Option Refusal :=
  match step s with
  | .refused r => some r
  | _ => none

/-- What the decoder answers a word with operand value 0x1234, frame [1], buffer [2]. -/
def decoded (t : Word) : Option Instr :=
  match decode t ⟨0x1234, [1], [2]⟩ with
  | .ok i => some i
  | .error _ => none

/-- Why the decoder refuses a word. -/
def decodeError (t : Word) : Option DecodeError :=
  match decode t ⟨0, [], []⟩ with
  | .ok _ => none
  | .error e => some e

/-- The pattern f16 of the vectors. -/
def f16 : List Byte :=
  [0x00, 0x11, 0x22, 0x33, 0x44, 0x55, 0x66, 0x77, 0x88, 0x99, 0xaa, 0xbb, 0xcc, 0xdd, 0xee, 0xff]

/-- Known values of the OPEN parameters: the smallest mask and the smallest capacity of R7. -/
def small : Params := { params with txLimitMask := 0x00ffffff, txBufCapacity := 0x100 }

/-- The largest mask of R7. -/
def wide : Params := { params with txLimitMask := 0x7fffffff, txBufCapacity := 0x100 }

/-- The TX setup of the vectors (C11, T1). -/
def txSetup : State :=
  { s0 with tx := { DmaChannel.reset with base := 0x1000, limit := 0x1010 }, mem := Memory.storeBytes [] 0x1000 f16 }

/-- The RX setup of the vectors (X1, H1). -/
def rxSetup : State :=
  { s0 with rxMode := 0x01
            rx := { DmaChannel.reset with base := 0x2000, limit := 0x2600, chainbase := 0x3000, chainlimit := 0x3600 } }

/-- `s` with one input waiting. -/
def waiting (s : State) (d : Delivery) : State := { s with pending := [d] }

/-! ## Well-formedness: a fallback at an offset that has an exact row is no instruction -/

theorem test_illformed_rbUnmapped : (Instr.rbUnmapped 0x6000).wellFormed = false := by decide
theorem test_illformed_wbUnmapped : (Instr.wbUnmapped 0x600d 1).wellFormed = false := by decide
theorem test_illformed_rlUnmapped : (Instr.rlUnmapped 0x4158).wellFormed = false := by decide
theorem test_illformed_wlUnmapped : (Instr.wlUnmapped 0x0150 1).wellFormed = false := by decide
theorem test_wellformed_fallbacks :
    (Instr.rbUnmapped 0x600d).wellFormed && (Instr.wbUnmapped 0x6007 1).wellFormed &&
      (Instr.rlUnmapped 0x6000).wellFormed && (Instr.wlUnmapped 0x4300 1).wellFormed &&
      (Instr.rh 0x6000).wellFormed && (Instr.wh 0x4110 1).wellFormed = true := by decide

/-! ## Decoding: every row of the table by the word the spec gives it (R64), writes with 0x1234 truncated (R60) -/

theorem test_decode_byteReads :
    [0x00016000, 0x00016001, 0x00016002, 0x00016003, 0x00016004, 0x00016005, 0x00016006].map decoded =
      ([.rbTxStat, .rbTxMask, .rbRxStat, .rbRxMask, .rbTxMode, .rbRxMode, .rbRstMode] : List Instr).map some := by decide

theorem test_decode_byteWrites :
    [0x00096000, 0x00096001, 0x00096002, 0x00096003, 0x00096004, 0x00096005, 0x00096006].map decoded =
      ([.wbTxStat 0x34, .wbTxMask 0x34, .wbRxStat 0x34, .wbRxMask 0x34, .wbTxMode 0x34, .wbRxMode 0x34,
        .wbRstMode 0x34] : List Instr).map some := by decide

theorem test_decode_macWrites :
    [0x00096008, 0x00096009, 0x0009600a, 0x0009600b, 0x0009600c, 0x0009600d].map decoded =
      ([.wbMac0 0x34, .wbMac1 0x34, .wbMac2 0x34, .wbMac3 0x34, .wbMac4 0x34, .wbMac5 0x34] : List Instr).map some := by
  decide

theorem test_decode_longReads :
    [0x00044100, 0x00044104, 0x00044110, 0x00044114, 0x00044310, 0x00044140, 0x00044144, 0x00044150, 0x00044154,
      0x00044158, 0x0004415c].map decoded =
      ([.rlTxSavedbase, .rlTxSavedlimit, .rlTxBase, .rlTxLimit, .rlTxBasew, .rlRxSavedbase, .rlRxSavedlimit, .rlRxBase,
        .rlRxLimit, .rlRxChainbase, .rlRxChainlimit] : List Instr).map some := by decide

theorem test_decode_longWrites :
    [0x000c4100, 0x000c4104, 0x000c4110, 0x000c4114, 0x000c4310, 0x000c4140, 0x000c4144, 0x000c4150, 0x000c4154,
      0x000c4158, 0x000c415c].map decoded =
      ([.wlTxSavedbase 0x1234, .wlTxSavedlimit 0x1234, .wlTxBase 0x1234, .wlTxLimit 0x1234, .wlTxBasew 0x1234,
        .wlRxSavedbase 0x1234, .wlRxSavedlimit 0x1234, .wlRxBase 0x1234, .wlRxLimit 0x1234, .wlRxChainbase 0x1234,
        .wlRxChainlimit 0x1234] : List Instr).map some := by decide

theorem test_decode_csrs :
    [0x00040110, 0x00040150, 0x000c0110, 0x000c0150].map decoded =
      ([.rlTxCsr, .rlRxCsr, .wlTxCsr 0x1234, .wlRxCsr 0x1234] : List Instr).map some := by decide

theorem test_decode_network :
    [0x00100000, 0x00200000].map decoded = ([.rxDeliver [1] [2], .canAccept] : List Instr).map some := by decide

/-- D-3 to D-7 and their writes. -/
theorem test_decode_fallbacks :
    [0x0001600d, 0x00010110, 0x00044111, 0x00026000, 0x000a4110, 0x00096007, 0x000c4300].map decoded =
      ([.rbUnmapped 0x600d, .rbUnmapped 0x0110, .rlUnmapped 0x4111, .rh 0x6000, .wh 0x4110 0x1234,
        .wbUnmapped 0x6007 0x34, .wlUnmapped 0x4300 0x1234] : List Instr).map some := by decide

/-- D-11 to D-17. -/
theorem test_decode_refused :
    [0x00036000, 0x00000000, 0x000d6000, 0x00300000, 0x00416000, 0x00100004, 0x00280000].map decodeError =
      ([.badWidth 3, .badWidth 0, .badWidth 5, .reservedEncoding 0x00300000, .reservedEncoding 0x00416000,
        .reservedEncoding 0x00100004, .reservedEncoding 0x00280000] : List DecodeError).map some := by decide

/-- D-18, D-19, D-22, D-25. -/
theorem test_logical_offsets :
    [logicalOffset .a 0x002, logicalOffset .a 0x00d, logicalOffset .b 0x0110, logicalOffset .b 0x4310] =
      [0x6002, 0x600d, 0x0110, 0x4310] := by decide

/-- D-21, D-24, and an unsupported width inside the window. -/
theorem test_windows_refuse :
    [refusal (waiting s0 (.physical .a 0xffe 4 false 0)), refusal (waiting s0 (.physical .b 0x43fe 4 false 0)),
      refusal (waiting s0 (.physical .b 0x0110 8 true 0))] =
      ([.outOfWindow .a 0xffe, .outOfWindow .b 0x43fe, .badWidth 8] : List Refusal).map some := by decide

/-- D-20, D-23: the last bytes of each window are inside it, and unmapped. -/
theorem test_windows_edge :
    [(stepped (waiting s0 (.physical .a 0xfff 1 false 0))).map (·.history),
      (stepped (waiting s0 (.physical .b 0x43fc 4 false 0))).map (·.history)] =
      [some [.mmioRead 0x6fff .byte 0], some [.mmioRead 0x43fc .long 0]] := by decide

/-- N1, N2: a write through a window reaches the register. -/
theorem test_windows_write :
    ((stepped (waiting s0 (.physical .a 0x000 1 true 0x12))).map (·.txStat),
      (stepped (waiting s0 (.physical .b 0x4150 4 true 0x2000))).map (·.rx.base)) = (some 0x12, some 0x2000) := by decide

/-! ## Byte registers -/

/-- B1, B2, B4 to B6. -/
theorem test_status_writes :
    [(after (.wbTxStat 0xff) { s0 with txStat := 0x12 }).map (·.txStat), (after (.wbTxStat 0xfe) s0).map (·.txStat),
      (after (.wbTxStat 0x00) { s0 with txStat := 0x80 }).map (·.txStat),
      (after (.wbRxStat 0xff) { s0 with rxStat := 0x55 }).map (·.rxStat),
      (after (.wbRxStat 0xff) { s0 with rxStat := 0x55 }).map (·.txStat)] =
      [some 0x80, some 0xfe, some 0x00, some 0x80, some 0x00] := by decide

/-- B7, B8, B11: no quirk on masks and on the reset mode. -/
theorem test_mask_writes :
    ((after (.wbTxMask 0xff) s0).map (·.txMask), (after (.wbRxMask 0xa5) s0).map (·.rxMask),
      (after (.wbRstMode 0xff) s0).map (·.rstMode)) = (some 0xff, some 0xa5, some 0xff) := by decide

/-- B9, B10: only RX mode gates. -/
theorem test_gate :
    ((after (.wbTxMode 0x03) s0).map gate,
      ([0x00, 0x01, 0x02, 0x03, 0x04, 0xfc, 0xfd] : List Byte).map fun v => (after (.wbRxMode v) s0).map gate) =
      (some false, [some false, some true, some true, some true, some false, some false, some true]) := by decide

/-- B13, U1, U5: reads answer the register, the stub and the unmapped offsets answer 0. -/
theorem test_byte_reads :
    [(after .rbRxStat { s0 with rxStat := 0x80 }).map (·.history), (after (.rh 0x6000) { s0 with txStat := 0x80 }).map (·.history),
      (after (.rbUnmapped 0x0110) s0).map (·.history)] =
      [some [.mmioRead 0x6002 .byte 0x80], some [.mmioRead 0x6000 .half 0], some [.mmioRead 0x0110 .byte 0]] := by decide

/-! ## The MAC -/

/-- M3, M4, M5. -/
theorem test_mac :
    [(after (.wbMac0 0x00) { s0 with mac := ⟨0x02, 0x11, 0x22, 0x33, 0x44, 0x55⟩ }).map (·.mac),
      (after (.wbMac5 0x00) { s0 with mac := ⟨0xaa, 0, 0, 0, 0, 0⟩ }).map (·.mac), (after (.wbMac5 0x01) s0).map (·.mac)] =
      [some ⟨0x00, 0x11, 0x22, 0x33, 0x44, 0x55⟩, some ⟨0xaa, 0, 0, 0, 0, 0⟩, some ⟨0, 0, 0, 0, 0, 0x01⟩] := by decide

/-- M2: the default is six free bytes. -/
theorem test_mac_default :
    (after (.wbMac5 0x00) s0).map (·.mac.b5) = some (Config.freeByte 5) := rfl

/-! ## Long registers -/

/-- L1, L2, L3. -/
theorem test_base_alias :
    ((after (.wlTxBase 0x1000) s0).map (fun t => (t.tx.base, t.tx.basew)),
      (after (.wlTxBasew 0x3000) s0).map (fun t => (t.tx.base, t.tx.basew))) =
      (some (0x1000, 0), some (0x3000, 0x3000)) := by decide

/-- L7, L8: the RX saved window is read-only. -/
theorem test_rx_saved_read_only :
    ((after (.wlRxSavedbase 0x9999) { s0 with rx := { DmaChannel.reset with savedbase := 0x2000 } }).map (·.rx.savedbase),
      (after (.wlRxSavedlimit 0) { s0 with rx := { DmaChannel.reset with savedlimit := 0x2020 } }).map (·.rx.savedlimit)) =
      (some 0x2000, some 0x2020) := by decide

/-- L4, L9: a limit is stored unmasked, the chain fields stand apart from the current window. -/
theorem test_long_writes :
    ((after (.wlTxLimit 0x80001010) s0).map (·.tx.limit),
      (after (.wlRxChainbase 0x3000) s0).map (fun t => (t.rx.base, t.rx.chainbase))) =
      (some 0x80001010, some (0, 0x3000)) := by decide

/-! ## CSR actions (C1 to C6, C10) -/

theorem test_rx_csr_actions :
    ([(0x0b000000, 0x00100000), (0, 0x00010000), (0, 0x00020000), (0x08000000, 0x00080000), (0x0a000000, 0x00120000),
      (0x08000000, 0x00190000), (0x08000000, 0xffffffff)] : List (Word × Word)).map
      (fun p => (after (.wlRxCsr p.2) { s0 with rx := { DmaChannel.reset with csr := p.1 } }).map (·.rx.csr)) =
      [some 0, some 0x01000000, some 0x02000000, some 0, some 0x02000000, some 0x01000000, some 0x03000000] := by decide

/-! ## TX transfer, at known values of the OPEN parameters -/

/-- T1, C11: the events in their order, and the CSR. -/
theorem test_tx_transfer :
    (csrWrite small .tx 0x00010000 txSetup).history = [.busRead 0x1000 16 f16, .netSend f16, .irq .txDma] ∧
      (csrWrite small .tx 0x00010000 txSetup).tx.csr = 0x0b000000 := ⟨by decide, by decide⟩

/-- T2, T3, T4, T6 under both masks: the length. -/
theorem test_tx_length :
    ([(0x1000, 0x1000), (0x1010, 0x1000), (0x1000, 0x80001010), (0x80000000, 0x80000010)] : List (Word × Word)).map
      (fun p => let c : DmaChannel := { DmaChannel.reset with base := p.1, limit := p.2 }
        (txLength small c, txLength wide c)) = [(0, 0), (0, 0), (16, 16), (0, 0)] := by decide

/-- T9: a rejected transfer, with clear-complete in the same write. -/
theorem test_tx_rejected :
    let s : State := { s0 with tx := { DmaChannel.reset with limit := 0x101, csr := 0x08000000 }, txStat := 0x12 }
    let t := csrWrite small .tx 0x00090000 s
    t.history = [.txRejected 0x101] ∧ t.tx.csr = 0x01000000 ∧ t.txStat = 0x12 := ⟨by decide, by decide, by decide⟩

/-- C14, C15: clear-complete runs after the transfer. -/
theorem test_tx_clear_complete_last :
    (csrWrite small .tx 0x00090000 txSetup).tx.csr = 0x03000000 ∧
      (csrWrite small .tx 0xffffffff txSetup).tx.csr = 0x03000000 := ⟨by decide, by decide⟩

/-! ## RX delivery -/

/-- X1: saved window, CSR, status, levels. -/
theorem test_rx_delivery :
    (after (.rxDeliver [1, 2, 3, 4, 5, 6, 7, 8, 9, 10] []) rxSetup).map
      (fun t => (t.rx.savedbase, t.rx.savedlimit, t.rx.base, t.rx.csr, t.rxStat, t.irq)) =
      some (0x2000, 0x2020, 0x2000, 0x08000000, 0x80, ⟨false, false, false, true⟩) := by decide

/-- H1: the chain is adopted and SUPDATE stays. -/
theorem test_rx_chain :
    (after (.rxDeliver (List.replicate 60 0) []) { rxSetup with rx := { rxSetup.rx with csr := 0x02000000 } }).map
      (fun t => (t.rx.savedbase, t.rx.savedlimit, t.rx.base, t.rx.limit, t.rx.csr)) =
      some (0x2000, 0x2040, 0x3000, 0x3600, 0x0a000000) := by decide

/-- X13: the write wraps at the top of the address space. -/
theorem test_rx_wraps :
    (after (.rxDeliver (List.replicate 32 7) []) { rxSetup with rx := { rxSetup.rx with base := 0xfffffff0 } }).map
      (fun t => (t.mem.byteAt 0xffffffff, t.mem.byteAt 0, t.mem.byteAt 0x0f, t.mem.byteAt 0x10, t.rx.savedlimit)) =
      some (some 7, some 7, some 7, none, 0x10) := by decide

/-- X8, X9: a closed gate. -/
theorem test_rx_closed :
    (after (.rxDeliver [1] []) { rxSetup with rxMode := 0x04 }).map (fun t => (t.history, t.rxStat)) =
      some ([.rxDeliver [1] .notAccepted], 0x00) := by decide

/-! ## The sink (R54) -/

/-- The sink lowers one line as it holds it and leaves the other; the levels of `S` (R32) and the history stay. -/
theorem test_sink_deasserts :
    let high : IrqLevels := ⟨false, false, true, true⟩
    (stepped (waiting { s0 with irq := high, sinkLines := high, history := [.irq .txDma] } (.deassert .txDma))).map
      (fun t => (t.sinkLines, t.irq, t.history)) = some (⟨false, false, false, true⟩, high, [.irq .txDma]) := by decide

/-! ## Witnesses: states and operands that meet the hypotheses of the statements -/

/-- A small limit below every allowed mask. -/
theorem witness_length (k : Fin 8) : 0x40#32 &&& BitVec.ofNat 32 (2 ^ (24 + k.val) - 1) = 0x40 := by
  revert k; decide

/-- A TX channel whose length is 0x40 under the model's own parameters. -/
def shortTx : State := { txSetup with tx := { DmaChannel.reset with limit := 0x40 } }

theorem witness_shortTx_length : txLength params shortTx.tx = 0x40 := by
  have : shortTx.tx.limit &&& params.txLimitMask = 0x40 := witness_length Config.txLimitExtraBits
  rw [txLength, this]
  rfl

theorem witness_shortTx_fits : txLength params shortTx.tx ≤ params.txBufCapacity := by
  rw [witness_shortTx_length]
  exact Nat.le_trans (by decide : 0x40 ≤ 0x100) (Nat.le_add_right _ _)

theorem witness_emptyTx_fits : txLength params s0.tx ≤ params.txBufCapacity := by
  simp [txLength, s0, State.reset, DmaChannel.reset]

/-- StepRunsTheDecodedInstruction. -/
theorem witness_step : (waiting s0 (.transaction (encode (.wbTxMask 1)))).pending = .transaction ⟨0x00096001, ⟨1, [], []⟩⟩ :: [] ∧
    decode 0x00096001 ⟨1, [], []⟩ = .ok (.wbTxMask 1) := ⟨rfl, rfl⟩

/-- PhysicalAccessIsTheLogicalTransaction, at the last access of each window. -/
theorem witness_physical :
    (waiting s0 (.physical .a 0xfff 1 false 0)).pending = .physical .a 0xfff 1 false 0 :: [] ∧
    (waiting s0 (.physical .b 0x43fc 4 true 7)).pending = .physical .b 0x43fc 4 true 7 :: [] ∧
    (1 ∈ [1, 2, 4] ∧ 0xfff + 1 ≤ 0x1000 ∧ (0x00016fff#32).toNat = (0xfff + 0x6000) % 2 ^ 16 + 1 * 2 ^ 16 + 0) ∧
    (4 ∈ [1, 2, 4] ∧ 0x43fc + 4 ≤ 0x4400 ∧ (0x000c43fc#32).toNat = 0x43fc % 2 ^ 16 + 4 * 2 ^ 16 + 2 ^ 19) := by decide

/-- DecodeRefusesExactlyTheReservedWords and NamedAnomaliesAreRefused: every clause (D-11 to D-17). -/
theorem witness_reserved :
    (rsvOf 0x00416000 ≠ 0 ∧ kindOf 0x00300000 = 3) ∧
    (rsvOf 0x00036000 = 0 ∧ kindOf 0x00036000 = 0 ∧ widthFieldOf 0x00036000 ∉ [1, 2, 4] ∧ widthFieldOf 0 = 0) ∧
    (rsvOf 0x00100004 = 0 ∧ kindOf 0x00100004 ∈ [1, 2] ∧ (0x00100004#32).toNat % 2 ^ 20 ≠ 0) ∧
    (kindOf 0x00280000 ∈ [1, 2] ∧ (0x00280000#32).toNat % 2 ^ 20 ≠ 0) ∧
    (rsvOf 0x00016000 = 0 ∧ kindOf 0x00016000 = 0 ∧ widthFieldOf 0x00016000 ∈ [1, 2, 4]) ∧
    (rsvOf 0x00200000 = 0 ∧ kindOf 0x00200000 ∈ [1, 2] ∧ (0x00200000#32).toNat % 2 ^ 20 = 0) := by decide

/-- NamedAnomaliesAreRefused: one byte past each window, and a frame one byte too long. -/
theorem witness_anomalies :
    ((waiting s0 (.physical .a 0xfff 2 true 1)).pending = .physical .a 0xfff 2 true 1 :: [] ∧ 0x1000 < 0xfff + 2 ∧
      0x4400 < 0x43fd + 4) ∧
    ((waiting s0 (.physical .b 0x43fd 3 true 1)).pending = .physical .b 0x43fd 3 true 1 :: [] ∧ 0x43fd + 3 ≤ 0x4400 ∧
      3 ∉ [1, 2, 4]) ∧
    ∃ t : Transaction, (waiting s0 (.transaction t)).pending = .transaction t :: [] ∧ t.word = 0x00100000 ∧
      2 ^ 32 - 32 < t.operand.frame.length :=
  ⟨by decide, by decide, ⟨0x00100000, ⟨0, List.replicate (2 ^ 32 - 31) 0, []⟩⟩, rfl, rfl, by rw [List.length_replicate]; decide⟩

/-- InputsOutsideTheBlock. -/
theorem witness_inputs :
    s0.pending = [] ∧ (waiting s0 (.busStore 0xffffffff [1, 2])).pending = .busStore 0xffffffff [1, 2] :: [] ∧
      (waiting s0 (.deassert .txDma)).pending = .deassert .txDma :: [] ∧
      (waiting s0 .platformReset).pending = .platformReset :: [] := ⟨rfl, rfl, rfl, rfl⟩

/-- MasksAreStoredAndGateNothing and ModesAreStoredAndOnlyTheGateReadsThem: a gate query with bits 1:0 kept, and a TX CSR
write, which is neither a delivery nor a query nor a mode access, with any modes. -/
theorem witness_masks_modes :
    ((∀ v, Instr.canAccept ≠ .wbTxMask v) ∧ (∀ v, Instr.canAccept ≠ .wbRxMask v) ∧ Instr.canAccept ≠ .rbTxMask ∧
      Instr.canAccept ≠ .rbRxMask) ∧
    ((0xfd#8).getLsbD 0 = rxSetup.rxMode.getLsbD 0 ∧ (0xfd#8).getLsbD 1 = rxSetup.rxMode.getLsbD 1 ∧
      (∀ v, Instr.canAccept ≠ .wbTxMode v) ∧ (∀ v, Instr.canAccept ≠ .wbRxMode v) ∧ Instr.canAccept ≠ .rbTxMode ∧
      Instr.canAccept ≠ .rbRxMode) ∧
    (let i : Instr := .wlTxCsr 0x00010000;
      (∀ pkt buffer, i ≠ .rxDeliver pkt buffer) ∧ i ≠ .canAccept ∧ (∀ v, i ≠ .wbTxMode v) ∧ (∀ v, i ≠ .wbRxMode v) ∧
        i ≠ .rbTxMode ∧ i ≠ .rbRxMode) :=
  ⟨⟨nofun, nofun, nofun, nofun⟩, ⟨by decide, by decide, nofun, nofun, nofun, nofun⟩,
    nofun, nofun, nofun, nofun, nofun, nofun⟩

/-- The statements over all instructions: instructions that answer a next state. -/
theorem witness_next : (∃ t, exec (.wbTxStat 0xff) s0 = .next t) ∧ (∃ t, exec (.wlTxCsr 0x00010000) shortTx = .next t) ∧
    (∃ t, exec (.rxDeliver [1] []) rxSetup = .next t) ∧ (∃ t, exec (.wbTxStat 0) s0 = .next t) :=
  ⟨⟨_, rfl⟩, ⟨_, rfl⟩, ⟨_, exec_rxDeliver_next _ (by decide)⟩, ⟨_, rfl⟩⟩

/-- StatusChangesOnlyByGuestWriteOrCompletion and OnlyCompletionsAssertALine: a transfer that completes and one that
does not. -/
theorem witness_completes : txCompletes 0x00010000 shortTx = true ∧ txCompletes 0 shortTx = false := by
  constructor
  · exact Bool.and_eq_true_iff.mpr ⟨by decide, decide_eq_true witness_shortTx_fits⟩
  · rfl

/-- MacByteFiveAppliesTheDefaultWhenUnset: both cases. -/
theorem witness_mac5 :
    (s0.mac.b0 = 0 ∧ s0.mac.b1 = 0 ∧ s0.mac.b2 = 0 ∧ s0.mac.b3 = 0 ∧ s0.mac.b4 = 0 ∧ (0 : Byte) = 0) ∧
    ¬(s0.mac.b0 = 0 ∧ s0.mac.b1 = 0 ∧ s0.mac.b2 = 0 ∧ s0.mac.b3 = 0 ∧ s0.mac.b4 = 0 ∧ (1 : Byte) = 0) := by decide

/-- UnmappedReadsAnswerZero and UnmappedWritesChangeNothing, beside the byte registers. -/
theorem witness_unmapped_bytes :
    (0x5fff : Offset) < 0x6000 ∧ (0x6006 : Offset) < 0x6007 ∧ (0x600d : Offset) < 0x600e := by decide

/-- UnmappedReadsAnswerZero and UnmappedWritesChangeNothing, beside the long registers. -/
theorem witness_unmapped_longs :
    (0x0111 : Offset) ∉ ([0x0110, 0x0150, 0x4100, 0x4104, 0x4110, 0x4114, 0x4310, 0x4140, 0x4144, 0x4150, 0x4154, 0x4158,
      0x415c] : List Offset) ∧
    (0x4160 : Offset) ∉ ([0x0110, 0x0150, 0x4100, 0x4104, 0x4110, 0x4114, 0x4310, 0x4140, 0x4144, 0x4150, 0x4154, 0x4158,
      0x415c] : List Offset) := by
  constructor <;> simp

/-- A layout in which every command mask equals a state mask or stands beside it (R126). -/
def sharedLayout : CsrLayout := ⟨1, 2, 8, 1, 2, 8, 4⟩

/-- OnlyCommandBitsOfACsrWriteCount and CsrActionsUnderAnyLayout (its capacities: witness_tx_capacity). -/
theorem witness_csr :
    ((0x0b000001#32 ^^^ 0x00000000#32) &&& (csrLayout.cmdReset ||| csrLayout.cmdSetEnable ||| csrLayout.cmdSetSupdate |||
      csrLayout.cmdClrComplete) = 0) ∧
    csrLayout.wellFormed = true ∧ sharedLayout.wellFormed = true ∧ 0x0b000000#32 &&& ~~~0x0b000000#32 = 0 ∧
    (0x00120000#32).getLsbD 16 = false ∧ hits 0x00120000 csrLayout.cmdSetEnable = false ∧
    hits 0x00010000 csrLayout.cmdSetEnable = true := by decide

/-- TxLengthFromTheMaskedLimit, at the smallest and the largest mask. -/
theorem witness_tx_length :
    (24 ≤ 24 ∧ 24 ≤ 31 ∧ small.txLimitMask = BitVec.ofNat 32 (2 ^ 24 - 1)) ∧
      (24 ≤ 31 ∧ 31 ≤ 31 ∧ wide.txLimitMask = BitVec.ofNat 32 (2 ^ 31 - 1)) := by decide

/-- A limit with bits 24 and 31 set: R130's mask keeps bit 24 under the largest mask and drops it under the smallest. -/
theorem test_tx_length_high_bits :
    let c : DmaChannel := { DmaChannel.reset with base := 0x1000, limit := 0x81001010 }
    txLength small c = 0x10 ∧ txLength wide c = 0x01000010 := by decide

/-- TxTransferWithinCapacity, TxSendsTheBytesMemoryHolds: a frame and the empty frame, and a byte memory holds. -/
theorem witness_tx_within :
    (0x00010000#32).getLsbD 16 = true ∧ txLength params shortTx.tx ≤ params.txBufCapacity ∧
      txLength params s0.tx ≤ params.txBufCapacity ∧ (∃ t, exec (.wlTxCsr 0x00010000) shortTx = .next t) ∧
      5 < txLength params shortTx.tx ∧
      ({ shortTx with mem := [(5, 9)] } : State).mem.byteAt ((shortTx.tx.base.toNat + 5) % 2 ^ 32) = some 9 :=
  ⟨by decide, witness_shortTx_fits, witness_emptyTx_fits, ⟨_, rfl⟩, by rw [witness_shortTx_length]; decide, by decide⟩

/-- TxCompletionSetsStatusAndLine, at a length equal to the capacity; OversizedTxTransferIsRejected, one byte more. -/
theorem witness_tx_capacity :
    txLength small { DmaChannel.reset with limit := 0x100 } ≤ small.txBufCapacity ∧ small.layout = csrLayout ∧
      small.txBufCapacity < txLength small { DmaChannel.reset with limit := 0x101 } := ⟨by decide, rfl, by decide⟩

/-- The delivery statements: each gate bit alone opens the gate, neither keeps it closed; SUPDATE set and clear. -/
theorem witness_gate :
    (({ rxSetup with rxMode := 0x04 } : State).rxMode &&& 0x03 = 0 ∧ rxSetup.rxMode &&& 0x03 ≠ 0 ∧
      ({ rxSetup with rxMode := 0x02 } : State).rxMode &&& 0x03 ≠ 0) ∧ gate rxSetup = true ∧ gate s0 = false ∧
      ({ rxSetup.rx with csr := 0x02000000 } : DmaChannel).csr &&& csrLayout.supdate ≠ 0 ∧
      rxSetup.rx.csr &&& csrLayout.supdate = 0 ∧ ([1, 2] : List Byte).length ≤ 2 ^ 32 - 32 := by decide

/-- AcceptedDeliveryMemory: a frame of 1 byte leaves room for 2 buffer bytes and for free bytes. -/
theorem witness_padding :
    0 < ([1] : List Byte).length ∧ ([1] : List Byte).length + 1 < (1 + 31) / 32 * 32 ∧ 1 + 2 + 28 < (1 + 31) / 32 * 32 ∧
      ∀ j, j < 32 → 0x2020 ≠ ((0x2000#32).toNat + j) % 2 ^ 32 := by decide

/-- OnlyAcceptedDeliveriesStore: an instruction that is no delivery, and a delivery at a closed gate. -/
theorem witness_no_store :
    ((∃ pkt buffer, Instr.canAccept = .rxDeliver pkt buffer) → gate rxSetup = false) ∧
      ((∃ pkt buffer, Instr.rxDeliver [1] [] = .rxDeliver pkt buffer) → gate s0 = false) :=
  ⟨nofun, fun _ => by decide⟩

/-- ChainIsAdoptedAgainByTheNextDelivery: two deliveries with SUPDATE set. -/
theorem witness_chain :
    let s : State := { rxSetup with rx := { rxSetup.rx with csr := 0x02000000 } }
    gate s = true ∧ s.rx.csr.getLsbD 25 = true ∧
      ∃ t u, exec (.rxDeliver [1] []) s = .next t ∧ exec (.rxDeliver [2] []) t = .next u :=
  ⟨by decide, by decide, _, _, exec_rxDeliver_next _ (by decide), exec_rxDeliver_next _ (by decide)⟩

/-- CsrBitsFollowTheFlagTable, TX: a transfer raises the three bits, a RESET lowers them. -/
theorem witness_tx_bits :
    (∃ t, exec (.wlTxCsr 0x00010000) s0 = .next t ∧ s0.tx.csr = 0 ∧ t.tx.csr = 0x0b000000) ∧
    (let s : State := { s0 with tx := { DmaChannel.reset with csr := 0x0b000000 } }
      ∃ t, exec (.wlTxCsr 0x00100000) s = .next t ∧ t.tx.csr = 0) := by
  constructor
  · refine ⟨_, rfl, rfl, ?_⟩
    rw [csrWrite_tx_enable _ _ _ (by decide), txTransfer_within (by exact witness_emptyTx_fits)]
    rfl
  · exact ⟨_, rfl, by decide⟩

/-- CsrBitsFollowTheFlagTable, RX: SETENABLE, SETSUPDATE and a delivery raise the bits, a RESET lowers them. -/
theorem witness_rx_bits :
    (∃ t, exec (.wlRxCsr 0x00030000) s0 = .next t ∧ t.rx.csr = 0x03000000) ∧
    (∃ t, exec (.rxDeliver [1] []) rxSetup = .next t ∧ t.rx.csr = 0x08000000) ∧
    (let s : State := { s0 with rx := { DmaChannel.reset with csr := 0x0b000000 } }
      ∃ t, exec (.wlRxCsr 0x00100000) s = .next t ∧ t.rx.csr = 0) :=
  ⟨⟨_, rfl, by decide⟩, ⟨_, exec_rxDeliver_next _ (by decide), by decide⟩, ⟨_, rfl, by decide⟩⟩

/-- RepeatedAccessesAreIdempotent: a MAC byte 5 write that leaves the address set, and a CSR write without SETENABLE. -/
theorem witness_idempotent :
    (∃ t u, exec (.wbMac5 1) s0 = .next t ∧ exec (.wbMac5 1) t = .next u) ∧
    (∃ t u, exec (.wlTxCsr 0x00020000) s0 = .next t ∧ exec (.wlTxCsr 0x00020000) t = .next u) ∧
    (0x00020000#32).getLsbD 16 = false ∧ (1 : Byte) ≠ 0 :=
  ⟨⟨_, _, rfl, rfl⟩, ⟨_, _, rfl, rfl⟩, by decide, by decide⟩

/-- NoStepLowersALine and LevelsFollowTheHistory: a state with a line high whose step answers a next state. -/
theorem witness_line :
    let s : State := waiting { s0 with irq := ⟨false, false, true, false⟩, history := [.irq .txDma] }
      (.transaction (bare 0x00016000))
    s.irq.level .txDma = true ∧ (s.irq.level .txDma = true ↔ Event.irq .txDma ∈ s.history) ∧
      (∀ rest, s.pending ≠ .platformReset :: rest) ∧ ∃ t, step s = .next t :=
  ⟨rfl, by decide, nofun, _, rfl⟩

/-- SinkLinesRiseByAssertionsAndFallByTheSink: a delivery, which raises a line, and the sink's lowering of one. -/
theorem witness_sink :
    (let s : State := waiting rxSetup (.transaction (encode (.rxDeliver [1] [])));
      (∀ rest, s.pending ≠ .deassert .rxDma :: rest) ∧ ∃ t, step s = .next t ∧ t.sinkLines.level .rxDma = true) ∧
    (let s : State := waiting { s0 with sinkLines := ⟨false, false, true, false⟩ } (.deassert .txDma);
      s.pending = .deassert .txDma :: [] ∧ s.sinkLines.level .txDma = true ∧ ∃ t, step s = .next t) :=
  ⟨⟨nofun, _, exec_rxDeliver_next (pkt := [1]) (buffer := []) rxSetup (by decide), by decide⟩, rfl, rfl, _, rfl⟩

/-- EveryStepKeepsTheInvariant: a state with a byte stored, a line high and an input waiting. -/
def witnessState : State :=
  { s0 with mem := [(0x2000, 1)], irq := ⟨false, false, true, false⟩, history := [.irq .txDma],
            pending := [.transaction (bare 0x00016000)] }

theorem witness_invariant : witnessState.Inv ∧ ∃ t, step witnessState = .next t := by
  refine ⟨⟨by decide, ?_, ⟨rfl, rfl⟩, ⟨rfl, rfl, rfl⟩, ?_, ?_⟩, _, rfl⟩
  · unfold State.csrClean; decide
  · unfold State.statusNotAck; decide
  · intro line
    cases line <;> decide

/-- CsrsHoldOnlyStateBits and MemoryStaysCanonical. -/
theorem witness_csrs_memory :
    witnessState.tx.csr &&& ~~~0x0b000000#32 = 0 ∧ witnessState.rx.csr &&& ~~~0x0b000000#32 = 0 ∧ witnessState.mem.wf := by
  decide

end Sys2Proof.Tests
end

section
/-! PROOFS. The scope of the model (R7, R11, R13, R14): the parameters' constraints, what one step does with each kind of
input, and what a transaction adds to the history. -/

namespace Sys2Proof.Proofs

open Sys2Proof.Machine Sys2Proof.Claims

/-! ## The limit mask (R7, D6) -/

/-- A mask of `k` ones that fits the word is the number `2^k - 1` (R7). -/
theorem toNat_lowOnes {k : Nat} (hk : k ≤ 31) : (BitVec.ofNat 32 (2 ^ k - 1)).toNat = 2 ^ k - 1 := by
  have hpow : 2 ^ k ≤ 2 ^ 31 := Nat.pow_le_pow_right (by decide) hk
  rw [BitVec.toNat_ofNat, Nat.mod_eq_of_lt (by omega)]

/-- Masking with `k` ones is the remainder mod `2^k`, so the length is a truncated difference of numbers (R130). -/
theorem txLength_of_lowOnes {P : Params} (c : DmaChannel) {k : Nat} (hk : k ≤ 31)
    (hmask : P.txLimitMask = BitVec.ofNat 32 (2 ^ k - 1)) :
    txLength P c = c.limit.toNat % 2 ^ k - c.base.toNat := by
  rw [txLength, hmask, BitVec.toNat_and, toNat_lowOnes hk, Nat.and_two_pow_sub_one_eq_mod]

/-- Settles O30: the truncated difference of naturals is the integer difference cut off at 0. -/
theorem txLengthFromTheMaskedLimit : Obligations.TxLengthFromTheMaskedLimit := by
  intro P c k _ hk hmask
  rw [txLength_of_lowOnes c hk hmask]
  omega

/-- Settles O48: the OPEN values enter as additions to the least allowed exponent and capacity, and the layout is a
constant. -/
theorem parametersMeetTheirConstraints : Obligations.ParametersMeetTheirConstraints := by
  have hk : 24 + Config.txLimitExtraBits.val ≤ 31 := by omega
  have hlayout : csrLayout.wellFormed = true := by decide
  have hcapacity : 0x100 ≤ txBufCapacity := Nat.le_add_right _ _
  exact ⟨hlayout, hcapacity, _, Nat.le_add_right _ _, hk, toNat_lowOnes hk⟩

/-! ## One step (R13, R14, R46) -/

/-- A transaction whose word decodes runs the decoded instruction (R63). -/
theorem runTransaction_of_decode {t : Transaction} {i : Instr} (h : decode t.word t.operand = .ok i) (s : State) :
    runTransaction t s = exec i s := by
  simp only [runTransaction, h]

/-- Settles O5: a step delivers the next input to the state without it, and a delivered transaction is run decoded. -/
theorem stepRunsTheDecodedInstruction : Obligations.StepRunsTheDecodedInstruction := by
  intro s t rest i hpending hdecode
  rw [step_cons hpending]
  exact runTransaction_of_decode hdecode _

/-- Settles O9, input by input: none, another agent's store, the sink's lowering of each line, a platform reset. -/
theorem inputsOutsideTheBlock : Obligations.InputsOutsideTheBlock := by
  refine ⟨fun s => step_nil, ?_, ?_, ?_⟩
  · intro s addr bytes rest h
    rw [step_cons h]
    rfl
  · intro s line rest h
    rw [step_cons h]
    cases line <;> rfl
  · intro s rest h
    rw [step_cons h]
    rfl

/-! ## What a transaction adds to the history (R11, R36) -/

/-- The events a transaction records of itself (R11). -/
inductive IsOwnEvent : Event → Prop
  | mmioRead (off : Offset) (w : Width) (v : Word) : IsOwnEvent (.mmioRead off w v)
  | mmioWrite (off : Offset) (w : Width) (v : Word) : IsOwnEvent (.mmioWrite off w v)
  | rxDeliver (pkt : List Byte) (result : RxResult) : IsOwnEvent (.rxDeliver pkt result)
  | canAccept (result : Bool) : IsOwnEvent (.canAccept result)

/-- The event lists a transaction can trigger after its own event: none, a rejected TX transfer (R132), a TX transfer
(R133 to R136), an RX transfer (R144, R149). A transfer of no bytes makes no bus call (D8). -/
inductive IsEffectList : List Event → Prop
  | none : IsEffectList []
  | txRejected (len : Nat) : IsEffectList [.txRejected len]
  | sent (addr : Word) (n : Nat) (frame : List Byte) :
      IsEffectList ((if n = 0 then [] else [.busRead addr n frame]) ++ [.netSend frame, .irq .txDma])
  | received (addr : Word) (bytes : List Byte) :
      IsEffectList ((if bytes = [] then [] else [.busWrite addr bytes]) ++ [.irq .rxDma])

/-- A TX transfer is rejected, or reads, sends and completes (R131, R138). -/
theorem txTransfer_effects (P : Params) (s : State) :
    ∃ effects, (txTransfer P s).history = s.history ++ effects ∧ IsEffectList effects := by
  by_cases hlen : txLength P s.tx ≤ P.txBufCapacity
  · rw [txTransfer_within hlen]
    refine ⟨_, ?_, .sent s.tx.base (txLength P s.tx) (s.memReadBytes s.tx.base (txLength P s.tx))⟩
    simp
  · rw [txTransfer_rejected (Nat.lt_of_not_le hlen)]
    exact ⟨_, State.record_history _ _, .txRejected _⟩

/-- Only the transfer of a TX CSR write with SETENABLE records anything (R121, R127). -/
theorem csrWrite_tx_effects (P : Params) (v : Word) (s : State) :
    ∃ effects, (csrWrite P .tx v s).history = s.history ++ effects ∧ IsEffectList effects := by
  cases hv : hits v P.layout.cmdSetEnable
  · rw [csrWrite_tx_idle _ _ _ hv]
    exact ⟨[], (List.append_nil _).symm, .none⟩
  · rw [csrWrite_tx_enable _ _ _ hv]
    exact txTransfer_effects P _

/-- An RX transfer makes its one bus write and asserts its line (R144, R149). -/
theorem rxTransfer_effects (P : Params) (pkt buffer : List Byte) (s : State) :
    ∃ effects, (rxTransfer P pkt buffer s).history = s.history ++ effects ∧ IsEffectList effects := by
  refine ⟨_, ?_, .received s.rx.base (rxBytes pkt buffer s.draws)⟩
  simp [rxTransfer]

/-- A transaction appends its own event and then what it triggers (R11, R46): a TX CSR write what its transfer does, an
accepted delivery what the RX transfer does, every other transaction nothing. -/
theorem exec_history {i : Instr} {s t : State} (h : exec i s = .next t) :
    ∃ own effects, t.history = s.history ++ own :: effects ∧ IsOwnEvent own ∧ IsEffectList effects := by
  cases i
  case wlTxCsr v =>
    cases h
    obtain ⟨effects, hhist, heffects⟩ := csrWrite_tx_effects params v (s.mmioWrite 0x0110 .long v)
    exact ⟨_, effects, hhist.trans (List.append_assoc _ _ _), .mmioWrite _ _ _, heffects⟩
  case wlRxCsr v =>
    cases h
    rw [csrWrite_rx]
    exact ⟨_, [], rfl, .mmioWrite _ _ _, .none⟩
  case rxDeliver pkt buffer =>
    obtain ⟨-, rfl⟩ := exec_rxDeliver_inv h
    cases hgate : gate s
    · rw [rxDeliver_closed _ _ _ _ hgate]
      exact ⟨_, [], rfl, .rxDeliver _ _, .none⟩
    · rw [rxDeliver_open _ _ _ _ hgate]
      obtain ⟨effects, hhist, heffects⟩ := rxTransfer_effects params pkt buffer (s.record (.rxDeliver pkt .accepted))
      exact ⟨_, effects, hhist.trans (List.append_assoc _ _ _), .rxDeliver _ _, heffects⟩
  case wbMac5 v =>
    cases h
    exact ⟨_, [], State.macDefaultIfUnset_history _, .mmioWrite _ _ _, .none⟩
  all_goals
    cases h
    exact ⟨_, [], rfl, by constructor, .none⟩

/-- Settles O43: of the four event lists a transaction can trigger, none holds an own event or a second bus call. -/
theorem historyGrowsByOneTransaction : Obligations.HistoryGrowsByOneTransaction := by
  intro i s t h
  obtain ⟨own, effects, hhist, hown, heffects⟩ := exec_history h
  refine ⟨own, effects, hhist, by cases hown <;> trivial, ?_⟩
  cases heffects with
  | none => simp
  | txRejected len => simp
  | sent addr n frame => split <;> simp
  | received addr bytes => split <;> simp

end Sys2Proof.Proofs
end

section
/-! PROOFS. The CSR values (R17, R18, R26): what a CSR write leaves of a CSR under any well-formed layout. -/

namespace Sys2Proof.Proofs

open Sys2Proof.Machine Sys2Proof.Claims

/-! ## Words that differ in the state bits only (R17, R18) -/

/-- Two words that agree on every bit outside a mask are the same outside it. -/
theorem and_not_eq_of_bits {m c d : Word}
    (h : ∀ i, i < 32 → m.getLsbD i = false → d.getLsbD i = c.getLsbD i) : d &&& ~~~m = c &&& ~~~m := by
  refine BitVec.eq_of_getLsbD_eq fun i hi => ?_
  simp only [BitVec.getLsbD_and, BitVec.getLsbD_not, hi, decide_true, Bool.true_and]
  cases hm : m.getLsbD i
  · rw [h i hi hm]
  · simp

/-- A bit outside the state mask is no state bit (R18). -/
theorem stateMask_bit_eq_false {L : CsrLayout} {i : Nat} (h : L.stateMask.getLsbD i = false) :
    L.enable.getLsbD i = false ∧ L.supdate.getLsbD i = false ∧ L.complete.getLsbD i = false := by
  simpa [CsrLayout.stateMask, and_assoc] using h

/-! ## A CSR write that completes no transfer (R121 to R125) -/

/-- The four actions leave every bit outside the state mask as it was (R17, R18). -/
theorem csrCommanded_outside (L : CsrLayout) (v c : Word) :
    csrCommanded L v c &&& ~~~L.stateMask = c &&& ~~~L.stateMask := by
  refine and_not_eq_of_bits fun i hi hm => ?_
  obtain ⟨he, hu, hc⟩ := stateMask_bit_eq_false hm
  simp [csrCommanded_bit _ _ _ hi, he, hu, hc]

/-- What the four actions leave of each state bit: the three state masks are different bits, so each action is seen by
the flag it names alone (R122 to R125). -/
theorem csrCommanded_follows {L : CsrLayout} (hL : L.wellFormed = true) (v c : Word) :
    csrFollows L v c (csrCommanded L v c) := by
  obtain ⟨e, u, k, he, hu, hk, heu, hek, huk, hE, hU, hK⟩ := CsrLayout.wellFormed_stateBits hL
  refine ⟨?_, ?_, ?_, csrCommanded_outside L v c⟩
  · rw [hE, hits_shift _ he, hits_shift _ he, csrCommanded_bit _ _ _ he, hE, hU, hK]
    simp only [getLsbD_shift_one _ _ he, heu, hek, decide_true, decide_false]
    cases c.getLsbD e <;> simp [Bool.or_comm]
  · rw [hU, hits_shift _ hu, hits_shift _ hu, csrCommanded_bit _ _ _ hu, hE, hU, hK]
    simp only [getLsbD_shift_one _ _ hu, heu.symm, huk, decide_true, decide_false]
    cases c.getLsbD u <;> simp [Bool.or_comm]
  · rw [hK, hits_shift _ hk, hits_shift _ hk, csrCommanded_bit _ _ _ hk, hE, hU, hK]
    simp only [getLsbD_shift_one _ _ hk, hek.symm, huk.symm, decide_true, decide_false]
    cases c.getLsbD k <;> simp

/-! ## A TX CSR write that completes a transfer (R123, R135) -/

/-- The TX CSR after a CSR write that completes a transfer: RESET and ENABLE before it, the completion, SETSUPDATE and
clear-complete after it (R121, R135). -/
def csrTransferred (L : CsrLayout) (v c : Word) : Word :=
  csrAfterTransfer L v (csrTxDone L (csrEnabled L (csrAfterReset L v c)))

/-- Bit `i` of the TX CSR after a completed transfer, under any layout. -/
theorem csrTransferred_bit (L : CsrLayout) (v c : Word) {i : Nat} (hi : i < 32) :
    (csrTransferred L v c).getLsbD i =
      (((c.getLsbD i && !(hits v L.cmdReset && (L.complete.getLsbD i || L.supdate.getLsbD i || L.enable.getLsbD i)))
        || L.enable.getLsbD i || L.complete.getLsbD i || L.supdate.getLsbD i)
        && !(hits v L.cmdClrComplete && L.complete.getLsbD i)) := by
  simp only [csrTransferred, csrAfterTransfer, csrAfterReset]
  cases hits v L.cmdReset <;> cases hits v L.cmdSetSupdate <;> cases hits v L.cmdClrComplete <;>
    simp [csrCleared_bit _ _ hi, csrEnabled_bit, csrTxDone_bit, csrUpdateLatched_bit, csrAcknowledged_bit _ _ hi]

/-- A completed transfer leaves every bit outside the state mask as it was (R17, R18). -/
theorem csrTransferred_outside (L : CsrLayout) (v c : Word) :
    csrTransferred L v c &&& ~~~L.stateMask = c &&& ~~~L.stateMask := by
  refine and_not_eq_of_bits fun i hi hm => ?_
  obtain ⟨he, hu, hc⟩ := stateMask_bit_eq_false hm
  simp [csrTransferred_bit _ _ _ hi, he, hu, hc]

/-- A completed transfer leaves ENABLE and SUPDATE set, and COMPLETE unless the write acknowledges it (R123, R125,
R135). -/
theorem csrTransferred_flags {L : CsrLayout} (hL : L.wellFormed = true) (v c : Word) :
    hits (csrTransferred L v c) L.enable = true ∧ hits (csrTransferred L v c) L.supdate = true ∧
      hits (csrTransferred L v c) L.complete = !hits v L.cmdClrComplete := by
  obtain ⟨e, u, k, he, hu, hk, heu, hek, huk, hE, hU, hK⟩ := CsrLayout.wellFormed_stateBits hL
  refine ⟨?_, ?_, ?_⟩
  · rw [hE, hits_shift _ he, csrTransferred_bit _ _ _ he, hE, hK]
    simp [getLsbD_shift_one _ _ he, hek]
  · rw [hU, hits_shift _ hu, csrTransferred_bit _ _ _ hu, hU, hK]
    simp [getLsbD_shift_one _ _ hu, huk]
  · rw [hK, hits_shift _ hk, csrTransferred_bit _ _ _ hk, hK]
    simp [getLsbD_shift_one _ _ hk]

/-! ## The CSR write as one state change (R121, R127) -/

/-- A TX CSR write that completes no transfer (R121, R132): events and the CSR, nothing else. -/
theorem csrWrite_tx_uncompleted {P : Params} {v : Word} {s : State}
    (h : hits v P.layout.cmdSetEnable = false ∨ P.txBufCapacity < txLength P s.tx) :
    ∃ events, csrWrite P .tx v s =
      (logged s events).setTx { s.tx with csr := csrCommanded P.layout v s.tx.csr } := by
  cases hv : hits v P.layout.cmdSetEnable
  · rw [csrWrite_tx_idle _ _ _ hv]
    exact ⟨[], by simp [logged]⟩
  · have hlen : P.txBufCapacity < txLength P s.tx := h.resolve_left (by simp [hv])
    rw [csrWrite_tx_enable _ _ _ hv, txTransfer_rejected (by exact hlen)]
    refine ⟨[.txRejected (txLength P s.tx)], ?_⟩
    simp only [csrCommanded, hv]
    rfl

/-- A TX CSR write that completes a transfer (R121, R133 to R136): the transfer, and the CSR as the steps around it
leave it. -/
theorem csrWrite_tx_completed {P : Params} {v : Word} {s : State}
    (hv : hits v P.layout.cmdSetEnable = true) (hlen : txLength P s.tx ≤ P.txBufCapacity) :
    csrWrite P .tx v s =
      (txComplete P (txLength P s.tx) s).setTx { s.tx with csr := csrTransferred P.layout v s.tx.csr } := by
  rw [csrWrite_tx_enable _ _ _ hv, txTransfer_within (by exact hlen)]
  ext <;> simp [csrTransferred, State.memReadBytes]

/-- Settles O29: the CSR word of each of the three forms of a CSR write, bit by bit. -/
theorem csrActionsUnderAnyLayout : Obligations.CsrActionsUnderAnyLayout := by
  intro P v s hL
  refine ⟨?_, fun h => ?_, fun hv hlen => ?_⟩
  · rw [csrWrite_rx]
    exact csrCommanded_follows hL v s.rx.csr
  · obtain ⟨events, heq⟩ := csrWrite_tx_uncompleted h
    rw [heq]
    exact csrCommanded_follows hL v s.tx.csr
  · rw [csrWrite_tx_completed hv hlen]
    obtain ⟨henable, hsupdate, hcomplete⟩ := csrTransferred_flags hL v s.tx.csr
    exact ⟨henable, hsupdate, hcomplete, csrTransferred_outside P.layout v s.tx.csr⟩

end Sys2Proof.Proofs
end

section
/-! PROOFS. The writers of every field of the state (R20 to R24, R32, R34): which transactions run a CSR write or a
delivery, what those do, and which field each transaction changes. -/

namespace Sys2Proof.Proofs

open Sys2Proof.Machine Sys2Proof.Claims

/-! ## What a transaction can do (R13, R14) -/

/-- What a CSR write or a delivery does, by its outcome: a TX CSR write completes a transfer (R133 to R136) or leaves
only events and the CSR (R121, R132), an RX CSR write changes its CSR (R128), a delivery is accepted (R151) or not
(R141). -/
inductive RunsAction : Instr → State → State → Prop
  | txCompleted (v : Word) (s : State) (hcompletes : txCompletes v s = true) :
      RunsAction (.wlTxCsr v) s ((txComplete params (txLength params s.tx) (s.mmioWrite 0x0110 .long v)).setTx
        { s.tx with csr := csrTransferred params.layout v s.tx.csr })
  | txUncompleted (v : Word) (s : State) (events : List Event) (hcompletes : txCompletes v s = false) :
      RunsAction (.wlTxCsr v) s
        ((logged s events).setTx { s.tx with csr := csrCommanded params.layout v s.tx.csr })
  | rxCommanded (v : Word) (s : State) :
      RunsAction (.wlRxCsr v) s
        ((s.mmioWrite 0x0150 .long v).setRx { s.rx with csr := csrCommanded params.layout v s.rx.csr })
  | accepted (pkt buffer : List Byte) (s : State) (hgate : gate s = true) :
      RunsAction (.rxDeliver pkt buffer) s (rxTransfer params pkt buffer (s.record (.rxDeliver pkt .accepted)))
  | notAccepted (pkt buffer : List Byte) (s : State) (hgate : gate s = false) :
      RunsAction (.rxDeliver pkt buffer) s (s.record (.rxDeliver pkt .notAccepted))

/-- The transactions that run no action: those that read or write at most the register they name. -/
def isRegisterAccess : Instr → Bool
  | .wlTxCsr _ | .wlRxCsr _ | .rxDeliver _ _ => false
  | _ => true

/-- A TX CSR write completes its transfer or does not (R121, R127). -/
theorem exec_wlTxCsr_action {v : Word} {s t : State} (h : exec (.wlTxCsr v) s = .next t) :
    RunsAction (.wlTxCsr v) s t := by
  cases h
  cases hc : txCompletes v s
  · have hno : hits v params.layout.cmdSetEnable = false ∨ params.txBufCapacity < txLength params s.tx := by
      simpa [txCompletes, imp_iff_not_or] using hc
    obtain ⟨events, heq⟩ := csrWrite_tx_uncompleted (s := s.mmioWrite 0x0110 .long v) hno
    rw [heq]
    simpa [logged] using RunsAction.txUncompleted v s (.mmioWrite 0x0110 .long v :: events) hc
  · obtain ⟨hv, hlen⟩ : hits v params.layout.cmdSetEnable = true ∧ txLength params s.tx ≤ params.txBufCapacity := by
      simpa [txCompletes] using hc
    rw [csrWrite_tx_completed hv (by exact hlen)]
    exact .txCompleted v s hc

/-- A delivery that answers a next state is accepted or not (R141, R151). -/
theorem exec_rxDeliver_action {pkt buffer : List Byte} {s t : State} (h : exec (.rxDeliver pkt buffer) s = .next t) :
    RunsAction (.rxDeliver pkt buffer) s t := by
  obtain ⟨-, rfl⟩ := exec_rxDeliver_inv h
  cases hgate : gate s
  · exact rxDeliver_closed _ _ _ _ hgate ▸ .notAccepted pkt buffer s hgate
  · exact rxDeliver_open _ _ _ _ hgate ▸ .accepted pkt buffer s hgate

/-- A transaction runs one of the five actions or is a register access. -/
theorem exec_cases {i : Instr} {s t : State} (h : exec i s = .next t) :
    RunsAction i s t ∨ isRegisterAccess i = true := by
  cases i
  case wlTxCsr v => exact .inl (exec_wlTxCsr_action h)
  case wlRxCsr v =>
    cases h
    exact .inl (csrWrite_rx params v _ ▸ .rxCommanded v s)
  case rxDeliver pkt buffer => exact .inl (exec_rxDeliver_action h)
  all_goals exact .inr rfl

/-- The RX channel after an accepted delivery (R145 to R148): with SUPDATE set the chained window is adopted, and
SUPDATE stays (D5). -/
theorem rxTransfer_rx (pkt buffer : List Byte) (s : State) :
    (rxTransfer params pkt buffer s).rx = { s.rx with
      savedbase := s.rx.base
      savedlimit := s.rx.base + BitVec.ofNat 32 (ceil32 pkt.length)
      base := if s.rx.csr.getLsbD 25 then s.rx.chainbase else s.rx.base
      limit := if s.rx.csr.getLsbD 25 then s.rx.chainlimit else s.rx.limit
      csr := csrRxDone params.layout s.rx.csr } := by
  have hkeeps : params.rxSupdateAutoclear = false := rfl
  cases hchain : s.rx.csr[25] <;> simp [rxTransfer, hchain, hkeeps]

/-- A delivery leaves the TX channel alone (R150). -/
theorem rxTransfer_tx (P : Params) (pkt buffer : List Byte) (s : State) :
    (rxTransfer P pkt buffer s).tx = s.tx := by
  simp [rxTransfer]

/-! ## The fields and their writers -/

/-- What a status write stores (R77, R79). -/
theorem statusStored_eq (v : Byte) : statusStored v = if v = 0xff then 0x80 else v := rfl

/-- Settles O14: the two completions set the idle value, and of the register accesses only a status write names a status
byte. -/
theorem statusChangesOnlyByGuestWriteOrCompletion : Obligations.StatusChangesOnlyByGuestWriteOrCompletion := by
  intro i s t h
  obtain haction | hreg := exec_cases h
  · cases haction with
    | txCompleted v _ hcompletes => simp [hcompletes, statIdle]
    | txUncompleted v _ events hcompletes => simp [hcompletes, logged]
    | rxCommanded v => exact ⟨rfl, rfl⟩
    | accepted pkt buffer _ hgate => simp [hgate, rxTransfer, statIdle]
    | notAccepted pkt buffer _ hgate => simp [hgate]
  · cases i <;> cases hreg <;> cases h <;> simp [statusStored_eq]

/-- Settles O20: a CSR write changes its CSR alone, a delivery the RX window and the RX CSR, and a register access at
most the register it names. -/
theorem dmaFieldsHaveOnlyTheirWriters : Obligations.DmaFieldsHaveOnlyTheirWriters := by
  intro i s t h
  obtain haction | hreg := exec_cases h
  · cases haction with
    | txCompleted => simp
    | txUncompleted => simp [logged]
    | rxCommanded => simp
    | accepted =>
      cases hchain : s.rx.csr[25] <;> simp [rxTransfer_tx, rxTransfer_rx, hchain]
    | notAccepted => simp
  · cases i <;> cases hreg <;> cases h <;> simp

/-- Settles O21: each byte register has its own write, and only the two completions assert a line. -/
theorem otherFieldsHaveOnlyTheirWriters : Obligations.OtherFieldsHaveOnlyTheirWriters := by
  intro i s t h
  obtain haction | hreg := exec_cases h
  · cases haction with
    | txCompleted => simp
    | txUncompleted => simp [logged]
    | rxCommanded => simp
    | accepted => simp [rxTransfer]
    | notAccepted => simp
  · cases i <;> cases hreg <;> cases h <;> simp

end Sys2Proof.Proofs
end

section
/-! PROOFS. The mask and mode bytes (R21, R22): no action of the block reads them, except that a delivery and a gate
query read the gate. -/

namespace Sys2Proof.Proofs

open Sys2Proof.Machine Sys2Proof.Claims

/-! ## Actions that do not read the four bytes -/

/-- `s` with each mask and mode byte replaced by a function of it. Both `withMasks` and `withModes` are of this form. -/
def mapControls (f g h k : Byte → Byte) (s : State) : State :=
  { s with txMask := f s.txMask, rxMask := g s.rxMask, txMode := h s.txMode, rxMode := k s.rxMode }

section
variable (f g h k : Byte → Byte)

/-- A TX transfer reads none of the four bytes (R138). -/
theorem txTransfer_mapControls (P : Params) (s : State) :
    txTransfer P (mapControls f g h k s) = mapControls f g h k (txTransfer P s) := by
  by_cases hlen : txLength P s.tx ≤ P.txBufCapacity
  · rw [txTransfer_within hlen, txTransfer_within (by exact hlen)]
    ext <;> simp [mapControls, State.memReadBytes]
  · have hlong := Nat.lt_of_not_le hlen
    rw [txTransfer_rejected hlong, txTransfer_rejected (by exact hlong)]
    rfl

/-- A CSR write reads none of the four bytes (R121). -/
theorem csrWrite_mapControls (P : Params) (ch : Chan) (v : Word) (s : State) :
    csrWrite P ch v (mapControls f g h k s) = mapControls f g h k (csrWrite P ch v s) := by
  cases ch
  case rx =>
    rw [csrWrite_rx, csrWrite_rx]
    rfl
  case tx =>
    cases hv : hits v P.layout.cmdSetEnable
    · rw [csrWrite_tx_idle _ _ _ hv, csrWrite_tx_idle _ _ _ hv]
      rfl
    · rw [csrWrite_tx_enable _ _ _ hv, csrWrite_tx_enable _ _ _ hv]
      have htransfer := txTransfer_mapControls f g h k P
        (s.setTx { s.tx with csr := csrEnabled P.layout (csrAfterReset P.layout v s.tx.csr) })
      exact congrArg (fun r => r.setTx { r.tx with csr := csrAfterTransfer P.layout v r.tx.csr }) htransfer

/-- A transfer of a delivered frame reads none of the four bytes (R142 to R149). -/
theorem rxTransfer_mapControls (P : Params) (pkt buffer : List Byte) (s : State) :
    rxTransfer P pkt buffer (mapControls f g h k s) = mapControls f g h k (rxTransfer P pkt buffer s) := by
  ext <;> simp [mapControls, rxTransfer]

/-- A delivery reads the four bytes at its gate only (R141, R151). -/
theorem exec_rxDeliver_mapControls {s : State} (hgate : gate (mapControls f g h k s) = gate s)
    (pkt buffer : List Byte) :
    exec (.rxDeliver pkt buffer) (mapControls f g h k s)
      = mapNext (mapControls f g h k) (exec (.rxDeliver pkt buffer) s) := by
  by_cases hlen : pkt.length ≤ params.maxRxFrame
  · rw [exec_rxDeliver_next _ hlen, exec_rxDeliver_next _ hlen, mapNext]
    cases hs : gate s
    · rw [rxDeliver_closed _ _ _ _ hs, rxDeliver_closed _ _ _ _ (hgate.trans hs)]
      rfl
    · rw [rxDeliver_open _ _ _ _ hs, rxDeliver_open _ _ _ _ (hgate.trans hs)]
      exact congrArg Host.Outcome.next
        (rxTransfer_mapControls f g h k params pkt buffer (s.record (.rxDeliver pkt .accepted)))
  · have hlong : params.maxRxFrame < pkt.length := Nat.lt_of_not_le hlen
    simp [exec, execRxDeliver, hlong, mapNext]

/-- The default of an unset MAC reads none of the four bytes (R90). -/
theorem macDefaultIfUnset_mapControls (s : State) :
    (mapControls f g h k s).macDefaultIfUnset = mapControls f g h k s.macDefaultIfUnset := by
  ext <;> simp [mapControls]

/-- The accesses to a mask or a mode byte (R71, R73 to R75, R78, R80 to R82). -/
def accessesControls : Instr → Bool
  | .rbTxMask | .rbRxMask | .rbTxMode | .rbRxMode | .wbTxMask _ | .wbRxMask _ | .wbTxMode _ | .wbRxMode _ => true
  | _ => false

/-- The transactions that read the accept gate (R140, R141). -/
def readsGate : Instr → Bool
  | .rxDeliver _ _ | .canAccept => true
  | _ => false

/-- A transaction that is no access to the four bytes commutes with replacing them, if the gate stays where it is read
(R21, R22). -/
theorem exec_mapControls {i : Instr} {s : State} (haccess : accessesControls i = false)
    (hgate : readsGate i = true → gate (mapControls f g h k s) = gate s) :
    exec i (mapControls f g h k s) = mapNext (mapControls f g h k) (exec i s) := by
  cases i
  case wlTxCsr v =>
    exact congrArg Host.Outcome.next (csrWrite_mapControls f g h k params .tx v (s.mmioWrite 0x0110 .long v))
  case wlRxCsr v =>
    exact congrArg Host.Outcome.next (csrWrite_mapControls f g h k params .rx v (s.mmioWrite 0x0150 .long v))
  case wbMac5 v =>
    exact congrArg Host.Outcome.next (macDefaultIfUnset_mapControls f g h k
      ((s.mmioWrite 0x600d .byte (v.setWidth 32)).setMac { s.mac with b5 := v }))
  case rxDeliver pkt buffer => exact exec_rxDeliver_mapControls f g h k (hgate rfl) pkt buffer
  case canAccept =>
    show Host.Outcome.next (State.record _ (.canAccept (gate (mapControls f g h k s)))) = _
    rw [hgate rfl]
    rfl
  all_goals cases haccess
  all_goals rfl

end

/-! ## The masks (R21) -/

/-- Settles O12: the accesses to a register by definition, and every other transaction commutes with replacing the
masks, which no gate reads. -/
theorem masksAreStoredAndGateNothing : Obligations.MasksAreStoredAndGateNothing := by
  refine ⟨fun s v => ⟨rfl, rfl, rfl, rfl⟩, fun i m n s hwtx hwrx hrtx hrrx => ?_⟩
  cases haccess : accessesControls i
  · exact exec_mapControls (fun _ => m) (fun _ => n) id id haccess fun _ => rfl
  · cases i
    case wbTxMask v => exact absurd rfl (hwtx v)
    case wbRxMask v => exact absurd rfl (hwrx v)
    case rbTxMask => exact absurd rfl hrtx
    case rbRxMask => exact absurd rfl hrrx
    all_goals cases haccess
    all_goals rfl

/-! ## The modes (R22) -/

/-- The effects of a transaction hold no delivery event (R11). -/
theorem IsEffectList.filter_isDelivery {effects : List Event} (h : IsEffectList effects) :
    effects.filter isDelivery = [] := by
  cases h with
  | none => rfl
  | txRejected len => rfl
  | sent addr n frame => split <;> rfl
  | received addr bytes => split <;> rfl

/-- A delivery records itself once, accepted exactly when the gate is open (R141, R151). -/
theorem exec_rxDeliver_records {pkt buffer : List Byte} {s t : State} (h : exec (.rxDeliver pkt buffer) s = .next t) :
    ∃ new, t.history = s.history ++ new ∧
      new.filter isDelivery = [.rxDeliver pkt (if gate s then .accepted else .notAccepted)] := by
  cases exec_rxDeliver_action h with
  | accepted _ _ _ hgate =>
    obtain ⟨effects, hhist, heffects⟩ := rxTransfer_effects params pkt buffer (s.record (.rxDeliver pkt .accepted))
    refine ⟨.rxDeliver pkt .accepted :: effects, hhist.trans (List.append_assoc _ _ _), ?_⟩
    rw [hgate, List.filter_cons_of_pos rfl, heffects.filter_isDelivery]
    rfl
  | notAccepted _ _ _ hgate =>
    rw [hgate]
    exact ⟨[.rxDeliver pkt .notAccepted], rfl, rfl⟩

/-- Replacing the modes by ones with the same bits 1:0 of RX mode leaves the gate as it was (R139). -/
theorem gate_withModes {m n : Byte} {s : State} (h0 : n.getLsbD 0 = s.rxMode.getLsbD 0)
    (h1 : n.getLsbD 1 = s.rxMode.getLsbD 1) : gate (withModes m n s) = gate s := by
  rw [Bool.eq_iff_iff, gate_iff, gate_iff]
  simp only [withModes, h0, h1]

/-- Settles O13: the accesses to a register by definition, the gate by its two bits, and every other transaction
commutes with replacing the modes, a delivery and a gate query as long as the gate stays as it was. -/
theorem modesAreStoredAndOnlyTheGateReadsThem : Obligations.ModesAreStoredAndOnlyTheGateReadsThem := by
  refine ⟨fun s v => ⟨rfl, rfl, rfl, rfl, gate_iff s⟩, fun _ _ _ _ => exec_rxDeliver_records, ?_⟩
  intro i m n s hbits hwtx hwrx hrtx hrrx
  cases haccess : accessesControls i
  · refine exec_mapControls id id (fun _ => m) (fun _ => n) haccess fun hreads => ?_
    obtain ⟨h0, h1⟩ | ⟨hdeliver, haccept⟩ := hbits
    · exact gate_withModes h0 h1
    · cases i
      case rxDeliver pkt buffer => exact absurd rfl (hdeliver pkt buffer)
      case canAccept => exact absurd rfl haccept
      all_goals cases hreads
  · cases i
    case wbTxMode v => exact absurd rfl (hwtx v)
    case wbRxMode v => exact absurd rfl (hwrx v)
    case rbTxMode => exact absurd rfl hrtx
    case rbRxMode => exact absurd rfl hrrx
    all_goals cases haccess
    all_goals rfl

end Sys2Proof.Proofs
end

section
/-! PROOFS. What every transaction and every step keeps (R17, R24, R26, R30, R160, R181): the CSR flags, the canonical
form of memory, the lines, the invariant. -/

namespace Sys2Proof.Proofs

open Sys2Proof.Machine Sys2Proof.Claims

/-- What no register access changes: the CSRs, the lines and bus memory (R69). -/
theorem registerAccess_frame {i : Instr} {s t : State} (hreg : isRegisterAccess i = true) (h : exec i s = .next t) :
    t.tx.csr = s.tx.csr ∧ t.rx.csr = s.rx.csr ∧ t.irq = s.irq ∧ t.mem = s.mem := by
  cases i <;> cases hreg <;> cases h <;> simp

/-! ## The CSR flags (R26) -/

/-- The three flags after the four commands, under the default layout (R122 to R125, D3). -/
theorem csrCommanded_default_flags (v c : Word) :
    (csrCommanded params.layout v c).getLsbD 24 = (v.getLsbD 16 || (c.getLsbD 24 && !v.getLsbD 20)) ∧
    (csrCommanded params.layout v c).getLsbD 25 = (v.getLsbD 17 || (c.getLsbD 25 && !v.getLsbD 20)) ∧
    (csrCommanded params.layout v c).getLsbD 27 = (c.getLsbD 27 && !v.getLsbD 20 && !v.getLsbD 19) := by
  obtain ⟨hlayout, -⟩ := parametersMeetTheirConstraints
  obtain ⟨henable, hsupdate, hcomplete, -⟩ := csrCommanded_follows hlayout v c
  simp only [hits_enable, hits_supdate, hits_complete, hits_cmdSetEnable, hits_cmdSetSupdate, hits_cmdClrComplete,
    hits_cmdReset] at henable hsupdate hcomplete
  exact ⟨henable, hsupdate, hcomplete⟩

/-- The three flags after a completed TX transfer, under the default layout (R123, R135, D3). -/
theorem csrTransferred_default_flags (v c : Word) :
    (csrTransferred params.layout v c).getLsbD 24 = true ∧ (csrTransferred params.layout v c).getLsbD 25 = true ∧
    (csrTransferred params.layout v c).getLsbD 27 = !v.getLsbD 19 := by
  obtain ⟨hlayout, -⟩ := parametersMeetTheirConstraints
  simpa only [hits_enable, hits_supdate, hits_complete, hits_cmdClrComplete] using csrTransferred_flags hlayout v c

/-- The three flags after an accepted delivery, under the default layout (R148, D3, D5). -/
theorem csrRxDone_default_flags (c : Word) :
    (csrRxDone params.layout c).getLsbD 24 = c.getLsbD 24 ∧ (csrRxDone params.layout c).getLsbD 25 = c.getLsbD 25 ∧
    (csrRxDone params.layout c).getLsbD 27 = true := by
  refine ⟨?_, ?_, ?_⟩ <;> rw [csrRxDone_bit, complete_bit (by decide)] <;> simp

/-- A TX CSR write that completes a transfer has SETENABLE set (R123, D3). -/
theorem setEnable_of_txCompletes {v : Word} {s : State} (h : txCompletes v s = true) : v.getLsbD 16 = true := by
  rw [txCompletes, hits_cmdSetEnable, Bool.and_eq_true] at h
  exact h.1

/-- Settles O44: the flags each action leaves. -/
theorem csrBitsFollowTheFlagTable : Obligations.CsrBitsFollowTheFlagTable := by
  intro i s t h
  obtain haction | hreg := exec_cases h
  · cases haction with
    | txCompleted v _ hcompletes =>
      obtain ⟨henable, hsupdate, hcomplete⟩ := csrTransferred_default_flags v s.tx.csr
      have hset := setEnable_of_txCompletes hcompletes
      simp only [State.setTx_tx, State.setTx_rx, txComplete_rx, State.mmioWrite_rx, henable, hsupdate, hcomplete]
      simp +contextual [hset, hcompletes]
    | txUncompleted v _ events =>
      obtain ⟨henable, hsupdate, hcomplete⟩ := csrCommanded_default_flags v s.tx.csr
      simp only [State.setTx_tx, State.setTx_rx, logged, henable, hsupdate, hcomplete]
      cases hreset : v[20] <;> simp +contextual [hreset]
    | rxCommanded v =>
      obtain ⟨henable, hsupdate, hcomplete⟩ := csrCommanded_default_flags v s.rx.csr
      simp only [State.setRx_tx, State.setRx_rx, State.mmioWrite_tx, henable, hsupdate, hcomplete]
      cases hreset : v[20] <;> simp +contextual [hreset]
    | accepted pkt buffer _ hgate =>
      obtain ⟨henable, hsupdate, hcomplete⟩ := csrRxDone_default_flags s.rx.csr
      simp only [rxTransfer_tx, rxTransfer_rx, State.record_tx, State.record_rx, henable, hsupdate, hcomplete]
      simp +contextual [hgate]
    | notAccepted => simp +contextual
  · obtain ⟨htx, hrx, -⟩ := registerAccess_frame hreg h
    simp +contextual [htx, hrx]

/-! ## What a step keeps (R13, R14) -/

/-- A property that every transaction keeps, that another agent's store and the sink's lowering of a line keep, that
creation establishes and that does not speak of the coming inputs is kept by every step. -/
theorem step_keeps {Q : State → Prop} {s t : State} (h : step s = .next t) (hs : Q s)
    (hpending : ∀ s rest, Q s → Q (s.setPending rest))
    (hexec : ∀ i s t, Q s → exec i s = .next t → Q t)
    (hstore : ∀ s addr bytes, Q s → Q (s.setMem (s.mem.storeBytes addr bytes)))
    (hdeassert : ∀ s line, Q s → Q (s.deassertIrq line))
    (hrecreate : ∀ s, Q s → Q s.recreate) : Q t := by
  obtain ⟨-, rfl⟩ | ⟨d, rest, -, hcases⟩ := step_cases h
  · exact hs
  · have hrest : Q (s.setPending rest) := hpending s rest hs
    obtain ⟨w, o, i, -, hrun⟩ | ⟨addr, bytes, -, rfl⟩ | ⟨line, -, rfl⟩ | ⟨-, rfl⟩ := hcases
    · exact hexec i _ t hrest hrun
    · exact hstore _ addr bytes hrest
    · exact hdeassert _ line hrest
    · exact hrecreate _ hrest

/-! ## The CSRs hold state bits only (R17) -/

/-- An accepted delivery leaves every bit outside the state mask as it was (R148). -/
theorem csrRxDone_outside (L : CsrLayout) (c : Word) : csrRxDone L c &&& ~~~L.stateMask = c &&& ~~~L.stateMask := by
  refine and_not_eq_of_bits fun i _ hm => ?_
  obtain ⟨-, -, hcomplete⟩ := stateMask_bit_eq_false hm
  rw [csrRxDone_bit, hcomplete, Bool.or_false]

/-- No transaction changes a bit of a CSR outside the state mask (R17). -/
theorem exec_csr_outside {i : Instr} {s t : State} (h : exec i s = .next t) :
    t.tx.csr &&& ~~~params.layout.stateMask = s.tx.csr &&& ~~~params.layout.stateMask ∧
      t.rx.csr &&& ~~~params.layout.stateMask = s.rx.csr &&& ~~~params.layout.stateMask := by
  obtain haction | hreg := exec_cases h
  · cases haction with
    | txCompleted v => exact ⟨csrTransferred_outside _ v _, by simp⟩
    | txUncompleted v => exact ⟨csrCommanded_outside _ v _, rfl⟩
    | rxCommanded v => exact ⟨rfl, csrCommanded_outside _ v _⟩
    | accepted =>
      rw [rxTransfer_tx, rxTransfer_rx]
      exact ⟨rfl, csrRxDone_outside _ _⟩
    | notAccepted => exact ⟨rfl, rfl⟩
  · obtain ⟨htx, hrx, -⟩ := registerAccess_frame hreg h
    rw [htx, hrx]
    exact ⟨rfl, rfl⟩

/-- Every transaction keeps the CSRs clean (R17). -/
theorem exec_keeps_csrClean {i : Instr} {s t : State} (hs : s.csrClean) (h : exec i s = .next t) : t.csrClean := by
  obtain ⟨htx, hrx⟩ := exec_csr_outside h
  exact ⟨htx.trans hs.1, hrx.trans hs.2⟩

/-- A created device has no bit set in its CSRs (R171). -/
theorem recreate_csrClean (s : State) : s.recreate.csrClean := ⟨BitVec.zero_and, BitVec.zero_and⟩

/-- Settles O51: the state mask of the default layout is 0x0b000000, and no input of the block changes a CSR bit outside
it. -/
theorem csrsHoldOnlyStateBits : Obligations.CsrsHoldOnlyStateBits := by
  intro s t htx hrx h
  exact step_keeps (Q := State.csrClean) h ⟨htx, hrx⟩ (fun _ _ hs => hs) (fun _ _ _ => exec_keeps_csrClean)
    (fun _ _ _ hs => hs) (fun _ _ hs => hs) fun s _ => recreate_csrClean s

/-! ## Memory keeps its canonical form (R28, R35) -/

/-- A transaction stores a byte string or leaves bus memory alone (R35, R137, R144). -/
theorem exec_mem {i : Instr} {s t : State} (h : exec i s = .next t) :
    t.mem = s.mem ∨ ∃ addr bytes, t.mem = s.mem.storeBytes addr bytes := by
  obtain haction | hreg := exec_cases h
  · cases haction with
    | txCompleted => exact .inl (by simp)
    | txUncompleted => exact .inl rfl
    | rxCommanded => exact .inl rfl
    | accepted pkt buffer => exact .inr ⟨s.rx.base, rxBytes pkt buffer s.draws, by simp [rxTransfer]⟩
    | notAccepted => exact .inl rfl
  · obtain ⟨-, -, -, hmem⟩ := registerAccess_frame hreg h
    exact .inl hmem

/-- Every transaction keeps the canonical form of memory. -/
theorem exec_keeps_memory {i : Instr} {s t : State} (hs : s.mem.wf) (h : exec i s = .next t) : t.mem.wf := by
  obtain hmem | ⟨addr, bytes, hmem⟩ := exec_mem h
  · exact hmem ▸ hs
  · exact hmem ▸ Memory.storeBytes_wf hs addr bytes

/-- Settles O52: whoever stores, it is one byte string into the canonical memory. -/
theorem memoryStaysCanonical : Obligations.MemoryStaysCanonical := by
  intro s t hs h
  exact step_keeps (Q := fun s => s.mem.wf) h hs (fun _ _ hs => hs) (fun _ _ _ => exec_keeps_memory)
    (fun _ addr bytes hs => Memory.storeBytes_wf hs addr bytes) (fun _ _ hs => hs) fun _ hs => hs

/-! ## The lines (R24, R54, R160) -/

/-- Every transaction keeps a line high exactly when the history holds its assertion (R24). -/
theorem exec_keeps_level {i : Instr} {s t : State} {line : IrqLine}
    (hs : s.irq.level line = true ↔ Event.irq line ∈ s.history) (h : exec i s = .next t) :
    t.irq.level line = true ↔ Event.irq line ∈ t.history := by
  obtain ⟨new, hhist, hlevel, -⟩ := exec_levels h line
  rw [hlevel, hhist, List.mem_append, hs]

/-- A created device holds every line low, and its history is empty (R171). -/
theorem recreate_level (s : State) (line : IrqLine) :
    s.recreate.irq.level line = true ↔ Event.irq line ∈ s.recreate.history := by
  cases line <;> simp [IrqLevels.level]

/-- Settles O53: only a transaction or a re-creation moves a level or the history. -/
theorem levelsFollowTheHistory : Obligations.LevelsFollowTheHistory := by
  intro s t line hs h
  exact step_keeps (Q := fun s => s.irq.level line = true ↔ Event.irq line ∈ s.history) h hs (fun _ _ hs => hs)
    (fun _ _ _ => exec_keeps_level) (fun _ _ _ hs => hs) (fun _ _ hs => hs) fun s _ => recreate_level s line

/-- Settles O46: a transaction only raises levels, and no other input but a re-creation moves one. -/
theorem noStepLowersALine : Obligations.NoStepLowersALine := by
  intro s t line h hreset hs
  obtain ⟨-, rfl⟩ | ⟨d, rest, hd, hcases⟩ := step_cases h
  · exact hs
  · obtain ⟨w, o, i, -, hrun⟩ | ⟨addr, bytes, -, rfl⟩ | ⟨line', -, rfl⟩ | ⟨rfl, -⟩ := hcases
    · obtain ⟨new, -, hlevel, -⟩ := exec_levels hrun line
      exact hlevel.mpr (.inl hs)
    · exact hs
    · exact hs
    · exact absurd hd (hreset rest)

/-- A step that is not the sink's lowering of a line raises that line as the sink holds it exactly by asserting it. -/
theorem step_raises_sinkLine {s t : State} {line : IrqLine} (h : step s = .next t)
    (hsink : ∀ rest, s.pending ≠ .deassert line :: rest) :
    t.sinkLines.level line = true ↔
      s.sinkLines.level line = true ∨ Event.irq line ∈ t.history.drop s.history.length := by
  obtain ⟨-, rfl⟩ | ⟨d, rest, hd, hcases⟩ := step_cases h
  · simp
  · obtain ⟨w, o, i, -, hrun⟩ | ⟨addr, bytes, -, rfl⟩ | ⟨line', rfl, rfl⟩ | ⟨-, rfl⟩ := hcases
    · obtain ⟨new, hhist, -, hlevel⟩ := exec_levels hrun line
      simpa [hhist] using hlevel
    · simp
    · have hother : line' ≠ line := by
        rintro rfl
        exact hsink rest hd
      simp [hother]
    · simp

/-- Settles O54: a step raises a line by its assertions, and the sink's lowering touches its own lines alone. -/
theorem sinkLinesRiseByAssertionsAndFallByTheSink : Obligations.SinkLinesRiseByAssertionsAndFallByTheSink := by
  intro s t line h
  refine ⟨step_raises_sinkLine h, fun rest hd => ?_⟩
  rw [step_cons hd] at h
  cases h
  exact ⟨by simp, rfl, rfl⟩

/-! ## The invariant -/

/-- Every transaction keeps IRQ_TX and IRQ_RX low: a completion asserts only a DMA line (R158). -/
theorem exec_keeps_inertLines {i : Instr} {s t : State} (hs : s.inertLines) (h : exec i s = .next t) :
    t.inertLines := by
  obtain haction | hreg := exec_cases h
  · cases haction with
    | txCompleted => simpa [State.inertLines, IrqLevels.assert] using hs
    | txUncompleted => exact hs
    | rxCommanded => exact hs
    | accepted => simpa [State.inertLines, IrqLevels.assert, rxTransfer] using hs
    | notAccepted => exact hs
  · obtain ⟨-, -, hirq, -⟩ := registerAccess_frame hreg h
    rwa [State.inertLines, hirq]

/-- Every transaction keeps the fields without an offset (R30, D25). -/
theorem exec_keeps_unmappedFields {i : Instr} {s t : State} (hs : s.unmappedFieldsAtReset) (h : exec i s = .next t) :
    t.unmappedFieldsAtReset := by
  obtain ⟨-, -, -, -, -, hchainbase, hchainlimit, -, -, -, -, -, -, -, -, hbasew⟩ :=
    dmaFieldsHaveOnlyTheirWriters i s t h
  rwa [State.unmappedFieldsAtReset, hchainbase, hchainlimit, hbasew]

/-- A status write never stores 0xFF (R77, R79). -/
theorem statusStored_ne_ack (v : Byte) : statusStored v ≠ statAck := by
  unfold statusStored
  split
  · decide
  · assumption

/-- Every transaction keeps the status bytes off 0xFF (R181). -/
theorem exec_keeps_statusNotAck {i : Instr} {s t : State} (hs : s.statusNotAck) (h : exec i s = .next t) :
    t.statusNotAck := by
  obtain ⟨htx, hrx⟩ := hs
  obtain ⟨htxStat, hrxStat⟩ := statusChangesOnlyByGuestWriteOrCompletion i s t h
  have hidle : (0x80 : Byte) ≠ statAck := by decide
  refine ⟨?_, ?_⟩
  · rw [htxStat]
    split
    · exact statusStored_ne_ack _
    · split <;> assumption
    · exact htx
  · rw [hrxStat]
    split
    · exact statusStored_ne_ack _
    · split <;> assumption
    · exact hrx

/-- Every transaction keeps the invariant. -/
theorem exec_keeps_inv {i : Instr} {s t : State} (hs : s.Inv) (h : exec i s = .next t) : t.Inv where
  memory := exec_keeps_memory hs.memory h
  csr := exec_keeps_csrClean hs.csr h
  inert := exec_keeps_inertLines hs.inert h
  unmapped := exec_keeps_unmappedFields hs.unmapped h
  status := exec_keeps_statusNotAck hs.status h
  levels line := exec_keeps_level (hs.levels line) h

/-- A device created over a canonical memory has the invariant (R171). -/
theorem recreate_inv {s : State} (hs : s.mem.wf) : s.recreate.Inv where
  memory := hs
  csr := recreate_csrClean s
  inert := ⟨rfl, rfl⟩
  unmapped := ⟨rfl, rfl, rfl⟩
  status :=
    have hzero : (0x00 : Byte) ≠ statAck := by decide
    ⟨hzero, hzero⟩
  levels := recreate_level s

/-- Settles O50: the six parts of the invariant are each kept by every transaction; another agent's store keeps memory
canonical, and nothing else of the invariant speaks of what an input outside the block changes. -/
theorem everyStepKeepsTheInvariant : Obligations.EveryStepKeepsTheInvariant := by
  intro s t hs h
  refine step_keeps h hs (fun s rest hs => ?_) (fun _ _ _ => exec_keeps_inv) (fun s addr bytes hs => ?_)
    (fun s line hs => ?_) fun s hs => recreate_inv hs.memory
  · exact ⟨hs.memory, hs.csr, hs.inert, hs.unmapped, hs.status, hs.levels⟩
  · exact ⟨Memory.storeBytes_wf hs.memory addr bytes, hs.csr, hs.inert, hs.unmapped, hs.status, hs.levels⟩
  · exact ⟨hs.memory, hs.csr, hs.inert, hs.unmapped, hs.status, hs.levels⟩

/-- Settles O49: the state at creation is a device created over the empty memory. -/
theorem invariantHoldsAtReset : Obligations.InvariantHoldsAtReset :=
  recreate_inv (s := State.reset) Memory.wf_nil

end Sys2Proof.Proofs
end

section
/-! PROOFS. The system-bus memory (R35, R37, R41, R43): the bytes a TX transfer sends, the bytes a delivery leaves,
which transactions store at all, and which accesses can be repeated without effect. -/

namespace Sys2Proof.Proofs

open Sys2Proof.Machine Sys2Proof.Claims

/-! ## Bus addresses as numbers (R37, D17) -/

/-- Byte `i` of a bus access from `addr` stands at `addr + i` mod 2^32. -/
theorem toNat_busAddress (addr : Word) (i : Nat) :
    (addr + BitVec.ofNat 32 i).toNat = (addr.toNat + i) % 2 ^ 32 := by
  simp [BitVec.toNat_add]

/-- A bus read answers the byte memory holds, where it holds one (R35). -/
theorem fetchBytes_of_byteAt {m : Memory} {addr : Word} {n j : Nat} {b : Byte} (d : Nat) (hj : j < n)
    (hb : m.byteAt ((addr.toNat + j) % 2 ^ 32) = some b) : (m.fetchBytes addr d n)[j]? = some b := by
  rw [List.getElem?_eq_getElem (by simpa using hj), Memory.fetchBytes_getElem _ _ _ _ _ hj, toNat_busAddress, hb]
  rfl

/-- A byte of a stored string is read back at its address, if the string fits the address space (R37, R41). -/
theorem byteAt_storeBytes_of_getElem? {bytes : List Byte} {j : Nat} {b : Byte} (m : Memory) (addr : Word)
    (hlen : bytes.length ≤ 2 ^ 32) (hb : bytes[j]? = some b) :
    (m.storeBytes addr bytes).byteAt ((addr.toNat + j) % 2 ^ 32) = some b := by
  obtain ⟨hj, rfl⟩ := List.getElem?_eq_some_iff.mp hb
  rw [← toNat_busAddress, Memory.byteAt_storeBytes m addr bytes hlen j hj]

/-! ## The frame of a TX transfer (R133, R134) -/

/-- Settles O34: a TX CSR write with SETENABLE within the capacity completes its transfer, and the frame it sends is the
one bus read of the transfer. -/
theorem txSendsTheBytesMemoryHolds : Obligations.TxSendsTheBytesMemoryHolds := by
  intro s t v hv hlen h
  have hcompletes : txCompletes v s = true := by
    rw [txCompletes, hits_cmdSetEnable, hv, decide_eq_true hlen, Bool.and_self]
  cases exec_wlTxCsr_action h with
  | txCompleted _ _ _ =>
    let n := txLength params s.tx
    let frame := s.mem.fetchBytes s.tx.base s.draws n
    refine ⟨.mmioWrite 0x0110 .long v :: ((if n = 0 then [] else [.busRead s.tx.base n frame])
      ++ [.netSend frame, .irq .txDma]), frame, ?_, ?_, Memory.fetchBytes_length _ _ _ _, ?_⟩
    · simp [State.memReadBytes, n, frame]
    · split <;> simp
    · exact fun j b => fetchBytes_of_byteAt s.draws
  | txUncompleted _ _ _ hno => exact absurd hcompletes (by simp [hno])

/-! ## The bytes of an RX transfer (R142 to R144) -/

/-- The rounded length of R142 by a quotient. -/
theorem ceil32_eq (n : Nat) : ceil32 n = (n + 31) / 32 * 32 := by
  unfold ceil32 rxAlign
  omega

/-- Past the bytes the backend supplies the padding holds free bytes, in the order they are drawn (R143). -/
theorem padding_free {buffer : List Byte} {k j : Nat} (d : Nat) (h : buffer.length + j < k) :
    (padding buffer d k)[buffer.length + j]? = some (Config.freeByte (d + j)) := by
  induction k generalizing buffer d j with
  | zero => omega
  | succ k ih =>
    cases buffer with
    | cons b rest =>
      have hrest : rest.length + j < k := by simp only [List.length_cons] at h; omega
      rw [List.length_cons, Nat.succ_add, padding, List.getElem?_cons_succ, ih d hrest]
    | nil =>
      cases j with
      | zero => rfl
      | succ j =>
        have hj : ([] : List Byte).length + j < k := by simp only [List.length_nil] at h ⊢; omega
        rw [← Nat.add_assoc, padding, List.getElem?_cons_succ, ih (d + 1) hj, Nat.add_right_comm, Nat.add_assoc]

/-- The bytes of an RX transfer start with the frame (R144). -/
theorem rxBytes_frame {pkt : List Byte} {j : Nat} (buffer : List Byte) (d : Nat) (hj : j < pkt.length) :
    (rxBytes pkt buffer d)[j]? = some pkt[j] := by
  rw [rxBytes, List.getElem?_append_left hj, List.getElem?_eq_getElem hj]

/-- After the frame come the bytes of the backend's buffer, up to the rounded length (R143). -/
theorem rxBytes_buffer {pkt buffer : List Byte} {j : Nat} (d : Nat) (hj : j < buffer.length)
    (hn : pkt.length + j < ceil32 pkt.length) : (rxBytes pkt buffer d)[pkt.length + j]? = some buffer[j] := by
  have hk : j < ceil32 pkt.length - pkt.length := by omega
  rw [rxBytes, List.getElem?_append_right (Nat.le_add_right _ _), Nat.add_sub_cancel_left,
    List.getElem?_eq_getElem (by simpa using hk), padding_getElem_of_lt _ _ _ _ hk hj]

/-- After the buffer come free bytes, up to the rounded length (R143, D18). -/
theorem rxBytes_free {pkt buffer : List Byte} {j : Nat} (d : Nat)
    (hn : pkt.length + buffer.length + j < ceil32 pkt.length) :
    (rxBytes pkt buffer d)[pkt.length + buffer.length + j]? = some (Config.freeByte (d + j)) := by
  rw [rxBytes, Nat.add_assoc, List.getElem?_append_right (Nat.le_add_right _ _), Nat.add_sub_cancel_left,
    padding_free d (by omega)]

/-- A delivery at an open gate stores the bytes of R144 at the RX base, and they fit the address space (R144, D30). -/
theorem exec_rxDeliver_mem {pkt buffer : List Byte} {s t : State} (hgate : gate s = true)
    (h : exec (.rxDeliver pkt buffer) s = .next t) :
    t.mem = s.mem.storeBytes s.rx.base (rxBytes pkt buffer s.draws) ∧
      (rxBytes pkt buffer s.draws).length ≤ 2 ^ 32 := by
  obtain ⟨hlen, rfl⟩ := exec_rxDeliver_inv h
  have hframe : pkt.length ≤ 0xffffffe0 := hlen
  obtain ⟨-, hround, -⟩ := ceil32_spec pkt.length
  rw [rxDeliver_open _ _ _ _ hgate, rxBytes_length]
  exact ⟨by simp [rxTransfer], by omega⟩

/-- Settles O39: the three parts of the stored string by their place in it, and the addresses outside it. -/
theorem acceptedDeliveryMemory : Obligations.AcceptedDeliveryMemory := by
  intro s t pkt buffer hgate h
  obtain ⟨hmem, hfits⟩ := exec_rxDeliver_mem hgate h
  dsimp only
  rw [hmem, ← ceil32_eq]
  refine ⟨fun j hj => ?_, fun j hj hn => ?_, fun j hn => ?_, fun a ha => ?_⟩
  · exact byteAt_storeBytes_of_getElem? _ _ hfits (rxBytes_frame buffer s.draws hj)
  · rw [Nat.add_assoc]
    exact byteAt_storeBytes_of_getElem? _ _ hfits (rxBytes_buffer s.draws hj hn)
  · rw [Nat.add_assoc, Nat.add_assoc, ← Nat.add_assoc pkt.length]
    exact byteAt_storeBytes_of_getElem? _ _ hfits (rxBytes_free s.draws hn)
  · refine Memory.byteAt_storeBytes_outside _ _ _ _ fun j hj => ?_
    rw [toNat_busAddress]
    exact ha j (by simpa using hj)

/-! ## The transactions that store nothing (R35, R43, R137) -/

/-- Settles O40: of the five actions only an accepted delivery stores, and a register access never does. -/
theorem onlyAcceptedDeliveriesStore : Obligations.OnlyAcceptedDeliveriesStore := by
  intro i s t h hclosed a
  suffices hmem : t.mem = s.mem by rw [hmem]
  obtain haction | hreg := exec_cases h
  · cases haction with
    | txCompleted => simp
    | txUncompleted => rfl
    | rxCommanded => rfl
    | accepted pkt buffer _ hopen => simp [hclosed ⟨pkt, buffer, rfl⟩] at hopen
    | notAccepted => rfl
  · obtain ⟨-, -, -, hmem⟩ := registerAccess_frame hreg h
    exact hmem

/-! ## Repeated accesses (R43) -/

/-- Repeating the four CSR actions with the same command bits changes nothing, under any layout (R121). -/
theorem csrCommanded_idem (L : CsrLayout) (v c : Word) :
    csrCommanded L v (csrCommanded L v c) = csrCommanded L v c := by
  have hbit : ∀ c r e u k : Bool,
      (((((c && !r) || e || u) && !k) && !r || e || u) && !k) = (((c && !r) || e || u) && !k) := by decide
  refine BitVec.eq_of_getLsbD_eq fun i hi => ?_
  rw [csrCommanded_bit _ _ _ hi, csrCommanded_bit _ _ _ hi]
  exact hbit _ _ _ _ _

/-- A MAC is unset when all six bytes are 0 (R90, D13). -/
theorem mac_unset_iff (m : Mac) :
    Mac.unset m = true ↔ m.b0 = 0 ∧ m.b1 = 0 ∧ m.b2 = 0 ∧ m.b3 = 0 ∧ m.b4 = 0 ∧ m.b5 = 0 := by
  cases m
  simp [Mac.unset]

/-- A MAC byte 5 write that leaves the MAC set draws no default (R89, R90). -/
theorem exec_wbMac5_of_set {v : Byte} {s : State} (hset : Mac.unset { s.mac with b5 := v } = false) :
    exec (.wbMac5 v) s = .next ((s.mmioWrite 0x600d .byte (v.setWidth 32)).setMac { s.mac with b5 := v }) :=
  congrArg Host.Outcome.next (if_neg (by simpa using hset))

/-- Without SETENABLE a TX CSR write runs the four actions on the CSR alone (R127). -/
theorem exec_wlTxCsr_of_not_setEnable {v : Word} (s : State) (hv : v.getLsbD 16 = false) :
    exec (.wlTxCsr v) s = .next ((s.mmioWrite 0x0110 .long v).setTx
      { s.tx with csr := csrCommanded params.layout v s.tx.csr }) :=
  congrArg Host.Outcome.next (csrWrite_tx_idle _ _ _ (by rw [hits_cmdSetEnable, hv]))

/-- An RX CSR write runs the four actions on the CSR alone (R128). -/
theorem exec_wlRxCsr (v : Word) (s : State) :
    exec (.wlRxCsr v) s = .next ((s.mmioWrite 0x0150 .long v).setRx
      { s.rx with csr := csrCommanded params.layout v s.rx.csr }) :=
  congrArg Host.Outcome.next (csrWrite_rx _ _ _)

/-- Settles O45: what a CSR write does to its CSR is idempotent, a MAC byte 5 write that draws nothing stores its byte
again, and every other access stores at most the value it carries. -/
theorem repeatedAccessesAreIdempotent : Obligations.RepeatedAccessesAreIdempotent := by
  intro i s t u hdeliver htx hmac ht hu
  cases i
  case rxDeliver pkt buffer => exact absurd rfl (hdeliver pkt buffer)
  case wlTxCsr v =>
    rw [exec_wlTxCsr_of_not_setEnable _ (htx v rfl)] at ht hu
    cases ht
    cases hu
    ext <;> simp [csrCommanded_idem]
  case wlRxCsr v =>
    rw [exec_wlRxCsr] at ht hu
    cases ht
    cases hu
    ext <;> simp [csrCommanded_idem]
  case wbMac5 v =>
    have hset : Mac.unset { s.mac with b5 := v } = false := by
      rw [← Bool.not_eq_true, mac_unset_iff]
      have := hmac v rfl
      tauto
    rw [exec_wbMac5_of_set hset] at ht
    cases ht
    rw [exec_wbMac5_of_set (by exact hset)] at hu
    cases hu
    rfl
  all_goals
    cases ht
    cases hu
    rfl

end Sys2Proof.Proofs
end

section
/-! PROOFS. The encoding (R61 to R66): the rows of the table by class, what the decoder answers, and that it reads back
the encoder and refuses exactly the reserved words. -/

namespace Sys2Proof.Proofs

open Sys2Proof.Machine Sys2Proof.Claims

/-! ## The MMIO words (R61) -/

/-- Width, direction and offset can be read off an MMIO word. -/
theorem mmioWord_inj {w w' : Width} {write write' : Bool} {off off' : Offset} :
    mmioWord w write off = mmioWord w' write' off' ↔ w = w' ∧ write = write' ∧ off = off' := by
  constructor
  · intro h
    have hclass : ∀ a b x y, mmioClass a x = mmioClass b y → a = b ∧ x = y := by
      intro a b
      cases a <;> cases b <;> decide
    obtain ⟨hc, ho⟩ := (mmioWord_eq_iff w write off _).mp h
    obtain ⟨hc', ho'⟩ := (mmioWord_eq_iff w' write' off' _).mp rfl
    obtain ⟨hw, hwrite⟩ := hclass _ _ _ _ (hc.trans hc'.symm)
    exact ⟨hw, hwrite, ho.trans ho'.symm⟩
  · rintro ⟨rfl, rfl, rfl⟩
    rfl

/-- An access of `n` bytes is the number R61 lays out: the offset, the width from bit 16 and the direction at bit 19. -/
theorem toNat_mmioWord {n : Nat} {w : Width} (hw : widthOf n = some w) (write : Bool) (off : Offset) :
    (mmioWord w write off).toNat = off.toNat + n * 2 ^ 16 + if write then 2 ^ 19 else 0 := by
  have hclass : (mmioClass w write).toNat = n + if write then 8 else 0 := by
    unfold widthOf at hw
    split at hw <;> cases hw <;> cases write <;> rfl
  rw [mmioWord_eq_append, BitVec.toNat_append, ← Nat.shiftLeft_add_eq_or_of_lt off.isLt, Nat.shiftLeft_eq, hclass]
  cases write <;> simp <;> omega

/-- The widths R59 accepts. -/
theorem widthOf_of_mem {n : Nat} (h : n ∈ [1, 2, 4]) : ∃ w, widthOf n = some w := by
  simp only [List.mem_cons, List.not_mem_nil, or_false] at h
  obtain rfl | rfl | rfl := h
  · exact ⟨.byte, rfl⟩
  · exact ⟨.half, rfl⟩
  · exact ⟨.long, rfl⟩

/-- The widths R59 refuses. -/
theorem widthOf_of_not_mem {n : Nat} (h : n ∉ [1, 2, 4]) : widthOf n = none := by
  unfold widthOf
  split <;> simp at h ⊢

/-! ## The fields of a word as numbers (R61) -/

theorem toNat_fieldRSV (t : Word) : (Word.fieldRSV t).toNat = rsvOf t := by
  rw [Word.fieldRSV, rsvOf, BitVec.extractLsb'_toNat, Nat.shiftRight_eq_div_pow]
  omega

theorem toNat_fieldK (t : Word) : (Word.fieldK t).toNat = kindOf t := by
  rw [Word.fieldK, kindOf, BitVec.extractLsb'_toNat, Nat.shiftRight_eq_div_pow]

theorem toNat_fieldW (t : Word) : (Word.fieldW t).toNat = widthFieldOf t := by
  rw [Word.fieldW, widthFieldOf, BitVec.extractLsb'_toNat, Nat.shiftRight_eq_div_pow]

theorem toNat_fieldD (t : Word) : (Word.fieldD t).toNat = t.toNat / 2 ^ 19 % 2 := by
  rw [Word.fieldD, BitVec.extractLsb'_toNat, Nat.shiftRight_eq_div_pow]

theorem toNat_fieldOFF (t : Word) : (Word.fieldOFF t).toNat = t.toNat % 2 ^ 16 := by
  rw [Word.fieldOFF, BitVec.extractLsb'_toNat, Nat.shiftRight_eq_div_pow, Nat.pow_zero, Nat.div_one]

/-- OFF, W and D are the low 20 bits of a word. -/
theorem low_fields_ne_zero_iff (t : Word) :
    (Word.fieldOFF t ≠ 0 ∨ Word.fieldW t ≠ 0 ∨ Word.fieldD t ≠ 0) ↔ t.toNat % 2 ^ 20 ≠ 0 := by
  simp only [ne_eq, ← BitVec.toNat_inj, toNat_fieldOFF, toNat_fieldW, toNat_fieldD, widthFieldOf]
  simp
  omega

/-- Steps 1 to 3 of R63 on the fields as numbers. -/
theorem reservedCheck_eq (t : Word) : reservedCheck t =
    if rsvOf t ≠ 0 ∨ kindOf t = 3 then some (.reservedEncoding t)
    else if kindOf t = 0 ∧ widthFieldOf t ∉ [1, 2, 4] then some (.badWidth (widthFieldOf t))
    else if kindOf t ≠ 0 ∧ t.toNat % 2 ^ 20 ≠ 0 then some (.reservedEncoding t)
    else none := by
  simp only [reservedCheck, low_fields_ne_zero_iff, toNat_fieldW]
  simp only [ne_eq, ← BitVec.toNat_inj, toNat_fieldRSV, toNat_fieldK, toNat_fieldW]
  simp

/-! ## The words that pass steps 1 to 3 of R63 -/

/-- A word of the MMIO kind with a width R59 accepts is an MMIO word (R61). -/
theorem exists_mmioWord {t : Word} (hrsv : rsvOf t = 0) (hk : kindOf t = 0) (hw : widthFieldOf t ∈ [1, 2, 4]) :
    ∃ w write off, t = mmioWord w write off := by
  obtain ⟨w, hw⟩ := widthOf_of_mem hw
  refine ⟨w, decide (t.toNat / 2 ^ 19 % 2 = 1), Word.fieldOFF t, BitVec.eq_of_toNat_eq ?_⟩
  rw [toNat_mmioWord hw, toNat_fieldOFF]
  simp only [rsvOf, kindOf, widthFieldOf, decide_eq_true_eq] at hrsv hk ⊢
  split <;> omega

/-- A network word with its fields at 0 is one of the two rows (R63, R140, R151). -/
theorem networkWord_cases {t : Word} (hrsv : rsvOf t = 0) (hk : kindOf t ∈ [1, 2]) (hlow : t.toNat % 2 ^ 20 = 0) :
    t = 0x00100000 ∨ t = 0x00200000 := by
  simp only [rsvOf, kindOf, List.mem_cons, List.not_mem_nil, or_false] at hrsv hk
  refine hk.imp (fun hk => BitVec.eq_of_toNat_eq ?_) (fun hk => BitVec.eq_of_toNat_eq ?_)
  · change t.toNat = 0x00100000
    omega
  · change t.toNat = 0x00200000
    omega

/-! ## The rows of the table by class (R63, R64) -/

/-- The offsets that have an exact row, by width and direction (R63 step 4). -/
def mappedOffsets : Width → Bool → List Offset
  | .byte, false => byteReadOffsets
  | .byte, true  => byteWriteOffsets
  | .half, _     => []
  | .long, _     => longOffsets

/-- The instruction of the fallback row of a width and a direction (R113 to R118). -/
def unmappedInstr : Width → Bool → Offset → Operand → Instr
  | .byte, false, off, _ => .rbUnmapped off
  | .byte, true,  off, o => .wbUnmapped off o.byte
  | .half, false, off, _ => .rh off
  | .half, true,  off, o => .wh off o.half
  | .long, false, off, _ => .rlUnmapped off
  | .long, true,  off, o => .wlUnmapped off o.long

/-- A fallback's instruction is well formed where no exact row is (R115 to R118). -/
theorem unmappedInstr_wellFormed_iff (w : Width) (write : Bool) (off : Offset) (o : Operand) :
    (unmappedInstr w write off o).wellFormed = true ↔ off ∉ mappedOffsets w write := by
  cases w <;> cases write <;> simp [unmappedInstr, Instr.wellFormed, mappedOffsets]

theorem encode_unmappedInstr_word (w : Width) (write : Bool) (off : Offset) (o : Operand) :
    (encode (unmappedInstr w write off o)).word = mmioWord w write off := by
  cases w <;> cases write <;> rfl

/-- The exact MMIO rows are the words of the mapped offsets, in the table's order. -/
theorem exactRows_codes : exactRows.map Row.code =
    byteReadOffsets.map (mmioWord .byte false) ++ byteWriteOffsets.map (mmioWord .byte true) ++
      longOffsets.map (mmioWord .long false) ++ longOffsets.map (mmioWord .long true) ++ [0x00100000, 0x00200000] := rfl

/-- An MMIO word has an exact row exactly when its offset is mapped. -/
theorem mmioWord_mem_codes_iff (w : Width) (write : Bool) (off : Offset) :
    mmioWord w write off ∈ exactRows.map Row.code ↔ off ∈ mappedOffsets w write := by
  have hnet : mmioWord w write off ∉ ([0x00100000, 0x00200000] : List Word) := by
    intro h
    have hk : Word.fieldK (mmioWord w write off) ≠ 0 := by
      simp only [List.mem_cons, List.not_mem_nil, or_false] at h
      obtain h | h := h <;> rw [h] <;> decide
    exact hk (fieldK_mmioWord w write off)
  rw [exactRows_codes]
  simp only [List.mem_append, List.mem_map, mmioWord_inj, hnet, or_false]
  cases w <;> cases write <;> simp [mappedOffsets]

/-- An exact row selects its own code only. -/
theorem selects_of_mem_exactRows : ∀ r ∈ exactRows, ∀ t, r.selects t = (t == r.code) := by
  simp only [exactRows, byteReadRows, byteWriteRows, longReadRows, longWriteRows, networkRows, List.cons_append,
    List.nil_append, List.forall_mem_cons, exactRow_selects]
  simp [exactRow]

/-- What an exact row makes is well formed and encodes to the row's code (R64). -/
theorem exactRow_make : ∀ r ∈ exactRows, ∀ t o,
    (r.make t o).wellFormed = true ∧ (encode (r.make t o)).word = r.code := by
  simp [exactRows, byteReadRows, byteWriteRows, longReadRows, longWriteRows, networkRows, exactRow, Instr.wellFormed,
    encode, bare, carrying]

/-- The fallback rows are one for each width and direction (R63). -/
theorem fallbackRows_eq : fallbackRows =
    [(.half, false), (.half, true), (.byte, false), (.byte, true), (.long, false), (.long, true)].map
      fun c : Width × Bool => fallbackRow (mmioWord c.1 c.2 0) (unmappedInstr c.1 c.2) := rfl

theorem mem_fallbackRows_iff (r : Row) :
    r ∈ fallbackRows ↔ ∃ w write, r = fallbackRow (mmioWord w write 0) (unmappedInstr w write) := by
  rw [fallbackRows_eq, List.mem_map]
  constructor
  · rintro ⟨⟨w, write⟩, -, rfl⟩
    exact ⟨w, write, rfl⟩
  · rintro ⟨w, write, rfl⟩
    exact ⟨(w, write), by cases w <;> cases write <;> simp, rfl⟩

/-- A fallback row selects the words of its class, at every offset. -/
theorem fallbackRow_selects_iff (w : Width) (write : Bool) (make : Offset → Operand → Instr) (t : Word) :
    (fallbackRow (mmioWord w write 0) make).selects t = true ↔ t = mmioWord w write (Word.fieldOFF t) := by
  have hhigh : (t &&& 0xffff0000#32).extractLsb' 16 16 = t.extractLsb' 16 16 := by
    rw [BitVec.extractLsb'_and]
    exact BitVec.and_allOnes
  have hlow : (0 : Offset) = (t &&& 0xffff0000#32).extractLsb' 0 16 := by
    rw [BitVec.extractLsb'_and]
    exact BitVec.and_zero.symm
  simp only [fallbackRow, Row.selects, beq_iff_eq]
  rw [eq_comm, mmioWord_eq_iff, hhigh, eq_comm (a := t), mmioWord_eq_iff]
  exact and_congr_right fun _ => ⟨fun _ => rfl, fun _ => hlow⟩

/-! ## What the decoder answers (R63) -/

/-- A word that steps 1 to 3 refuse is refused by their name. -/
theorem decode_of_reserved {t : Word} {e : DecodeError} (h : reservedCheck t = some e) (o : Operand) :
    decode t o = .error e := by
  simp only [decode, h]

/-- A word that passes steps 1 to 3 and is selected by some row decodes. -/
theorem decode_of_selected {t : Word} (h : reservedCheck t = none) {r : Row} (hr : r ∈ rows)
    (hselects : r.selects t = true) (o : Operand) : ∃ i, decode t o = .ok i := by
  have hsome : (rows.find? (·.selects t)).isSome = true := List.find?_isSome.mpr ⟨r, hr, hselects⟩
  obtain ⟨r', hfind⟩ := Option.isSome_iff_exists.mp hsome
  exact ⟨r'.make t o, by simp only [decode, h, hfind]⟩

/-- A decoded instruction is what the first row that selects the word makes. -/
theorem decode_ok_inv {t : Word} {o : Operand} {i : Instr} (h : decode t o = .ok i) :
    ∃ r, rows.find? (·.selects t) = some r ∧ i = r.make t o := by
  unfold decode at h
  split at h
  · cases h
  · split at h
    · rename_i r hfind
      cases h
      exact ⟨r, hfind, rfl⟩
    · cases h

/-- A decoded word is the code of an exact row, or an MMIO word at an offset without one, which its fallback answers. -/
theorem decode_ok_cases {t : Word} {o : Operand} {i : Instr} (h : decode t o = .ok i) :
    (∃ r ∈ exactRows, t = r.code ∧ i = r.make t o) ∨
      ∃ w write off, t = mmioWord w write off ∧ (unmappedInstr w write off o).wellFormed = true ∧
        i = unmappedInstr w write off o := by
  obtain ⟨r, hfind, rfl⟩ := decode_ok_inv h
  have hselects : r.selects t = true := List.find?_some (p := fun r : Row => r.selects t) hfind
  rw [rows, List.find?_append, Option.or_eq_some_iff] at hfind
  obtain hexact | ⟨hnone, hfallback⟩ := hfind
  · have hr := List.mem_of_find?_eq_some hexact
    rw [selects_of_mem_exactRows r hr, beq_iff_eq] at hselects
    exact .inl ⟨r, hr, hselects, rfl⟩
  · obtain ⟨w, write, rfl⟩ := (mem_fallbackRows_iff r).mp (List.mem_of_find?_eq_some hfallback)
    have ht := (fallbackRow_selects_iff _ _ _ _).mp hselects
    refine .inr ⟨w, write, Word.fieldOFF t, ht, ?_, rfl⟩
    rw [unmappedInstr_wellFormed_iff, ← mmioWord_mem_codes_iff, ← ht, List.mem_map]
    rintro ⟨r, hr, hcode⟩
    exact List.find?_eq_none.mp hnone r hr (by rw [selects_of_mem_exactRows r hr, hcode, beq_self_eq_true])

/-- Every MMIO word decodes: its fallback selects it. -/
theorem decode_mmioWord (w : Width) (write : Bool) (off : Offset) (o : Operand) :
    ∃ i, decode (mmioWord w write off) o = .ok i :=
  decode_of_selected (reservedCheck_mmioWord w write off)
    (List.mem_append_right _ ((mem_fallbackRows_iff _).mpr ⟨w, write, rfl⟩))
    ((fallbackRow_selects_iff _ _ _ _).mpr (by rw [fieldOFF_mmioWord])) o

/-- An MMIO word at an offset without an exact row decodes to its fallback's instruction (R113 to R118). -/
theorem decode_unmapped (w : Width) (write : Bool) (off : Offset) (o : Operand)
    (hwf : (unmappedInstr w write off o).wellFormed = true) :
    decode (mmioWord w write off) o = .ok (unmappedInstr w write off o) := by
  obtain ⟨i, hi⟩ := decode_mmioWord w write off o
  rw [hi]
  obtain ⟨r, hr, hcode, -⟩ | ⟨w', write', off', hword, -, rfl⟩ := decode_ok_cases hi
  · have hmem : mmioWord w write off ∈ exactRows.map Row.code := List.mem_map.mpr ⟨r, hr, hcode.symm⟩
    rw [mmioWord_mem_codes_iff] at hmem
    exact absurd hmem ((unmappedInstr_wellFormed_iff w write off o).mp hwf)
  · obtain ⟨rfl, rfl, rfl⟩ := mmioWord_inj.mp hword
    rfl

/-- A value that fits the access width survives the truncation of R60. -/
theorem byte_toNat (v : Byte) : Operand.byte ⟨v.toNat, [], []⟩ = v :=
  (BitVec.ofNat_toNat _ _).trans (BitVec.setWidth_eq _)

theorem half_toNat (v : Half) : Operand.half ⟨v.toNat, [], []⟩ = v :=
  (BitVec.ofNat_toNat _ _).trans (BitVec.setWidth_eq _)

theorem long_toNat (v : Word) : Operand.long ⟨v.toNat, [], []⟩ = v :=
  (BitVec.ofNat_toNat _ _).trans (BitVec.setWidth_eq _)

/-- A row that reads its operand as a byte reads back the byte a write carries. -/
theorem decode_byteWrite {word : Word} {make : Byte → Instr} (h : ∀ o, decode word o = .ok (make o.byte)) (v : Byte) :
    decode word ⟨v.toNat, [], []⟩ = .ok (make v) := by
  rw [h, byte_toNat]

/-- A row that reads its operand as a long reads back the long a write carries. -/
theorem decode_longWrite {word : Word} {make : Word → Instr} (h : ∀ o, decode word o = .ok (make o.long)) (v : Word) :
    decode word ⟨v.toNat, [], []⟩ = .ok (make v) := by
  rw [h, long_toNat]

/-! ## Decoding and encoding (R63, R64) -/

/-- Settles O2: a fallback's offset is unmapped, so its word finds the fallback row; every other word is an exact row's
code, and its value fits the access width. -/
theorem decodeReadsBackEncode : Obligations.DecodeReadsBackEncode := by
  intro i hwf
  -- `dsimp` exposes the literal word of an instruction with operands, so that `rfl` can run the lookup on it.
  cases i
  case rh off => exact decode_unmapped .half false off _ hwf
  case rbUnmapped off => exact decode_unmapped .byte false off _ hwf
  case rlUnmapped off => exact decode_unmapped .long false off _ hwf
  case wh off v => exact (decode_unmapped .half true off _ hwf).trans (congrArg _ (congrArg _ (half_toNat v)))
  case wbUnmapped off v => exact (decode_unmapped .byte true off _ hwf).trans (congrArg _ (congrArg _ (byte_toNat v)))
  case wlUnmapped off v => exact (decode_unmapped .long true off _ hwf).trans (congrArg _ (congrArg _ (long_toNat v)))
  case wbTxStat v | wbTxMask v | wbRxStat v | wbRxMask v | wbTxMode v | wbRxMode v | wbRstMode v | wbMac0 v | wbMac1 v |
      wbMac2 v | wbMac3 v | wbMac4 v | wbMac5 v =>
    dsimp only [encode, carrying]
    exact decode_byteWrite (fun _ => rfl) v
  case wlTxCsr v | wlRxCsr v | wlTxSavedbase v | wlTxSavedlimit v | wlTxBase v | wlTxLimit v | wlTxBasew v |
      wlRxSavedbase v | wlRxSavedlimit v | wlRxBase v | wlRxLimit v | wlRxChainbase v | wlRxChainlimit v =>
    dsimp only [encode, carrying]
    exact decode_longWrite (fun _ => rfl) v
  case rxDeliver pkt buffer =>
    dsimp only [encode]
    rfl
  all_goals rfl

/-- Settles O3: an exact row makes an instruction of its own code, a fallback one at an offset it is well formed at. -/
theorem decodedInstructionsEncodeToTheirWord : Obligations.DecodedInstructionsEncodeToTheirWord := by
  intro t o i h
  obtain ⟨r, hr, rfl, rfl⟩ | ⟨w, write, off, rfl, hwf, rfl⟩ := decode_ok_cases h
  · exact exactRow_make r hr _ o
  · exact ⟨hwf, encode_unmappedInstr_word w write off o⟩

/-- Settles O4: the refusals are those of steps 1 to 3 of R63, and a word that passes them is an MMIO word or one of the
two network words. -/
theorem decodeRefusesExactlyTheReservedWords : Obligations.DecodeRefusesExactlyTheReservedWords := by
  intro t o
  refine ⟨fun h => ?_, fun hrsv hk hw => ?_, fun hrsv hk hlow => ?_, fun hrsv hk hw => ?_, fun hrsv hk hlow => ?_⟩
  · exact decode_of_reserved (by rw [reservedCheck_eq, if_pos h]) o
  · refine decode_of_reserved ?_ o
    rw [reservedCheck_eq, if_neg (by omega), if_pos ⟨hk, hw⟩]
  · have hk' : kindOf t = 1 ∨ kindOf t = 2 := by simpa using hk
    refine decode_of_reserved ?_ o
    rw [reservedCheck_eq, if_neg (by omega), if_neg (by omega), if_pos ⟨by omega, hlow⟩]
  · obtain ⟨w, write, off, rfl⟩ := exists_mmioWord hrsv hk hw
    exact decode_mmioWord w write off o
  · obtain rfl | rfl := networkWord_cases hrsv hk hlow
    · exact ⟨_, rfl⟩
    · exact ⟨_, rfl⟩

/-- Settles O1: each word evaluates to its row's instruction, the MMIO values truncated to their width (R60). -/
theorem tableWordsOfEachFamilyDecode : Obligations.TableWordsOfEachFamilyDecode :=
  ⟨rfl, rfl, rfl, rfl, rfl, rfl, rfl, rfl, rfl, rfl⟩

end Sys2Proof.Proofs
end

section
/-! PROOFS. The accesses through the windows and the refusals of a step (R55 to R59, R154, R155): what normalisation
answers, and what a step does with an input that is no transaction. -/

namespace Sys2Proof.Proofs

open Sys2Proof.Machine Sys2Proof.Claims

/-! ## Physical accesses (R55 to R59) -/

/-- An access inside its window and of an accepted width is the MMIO word at its logical offset. -/
theorem normalise_inside {win : Window} {p width : Nat} {w : Width} (hin : p + width ≤ win.size)
    (hw : widthOf width = some w) (write : Bool) :
    normalise win p width write = .ok (mmioWord w write (logicalOffset win p)) := by
  rw [normalise, if_neg (Nat.not_lt.mpr hin), hw]

/-- R58: past the window's end. -/
theorem normalise_outside {win : Window} {p width : Nat} (hout : win.size < p + width) (write : Bool) :
    normalise win p width write = .error (.outOfWindow win p) := by
  rw [normalise, if_pos hout]

/-- R59: inside the window with another width. -/
theorem normalise_badWidth {win : Window} {p width : Nat} (hin : p + width ≤ win.size) (hw : widthOf width = none)
    (write : Bool) : normalise win p width write = .error (.badWidth width) := by
  rw [normalise, if_neg (Nat.not_lt.mpr hin), hw]

theorem toNat_logicalOffset (win : Window) (p : Nat) : (logicalOffset win p).toNat = (p + win.base) % 2 ^ 16 :=
  BitVec.toNat_ofNat _ _

/-! ## A step with a physical access or a refused word (R46, R63, R155) -/

/-- A step with an access that becomes a word runs that word's transaction (R56). -/
theorem step_physical_ok {s : State} {win : Window} {p width : Nat} {write : Bool} {value : Nat} {rest : List Delivery}
    {word : Word} (hpending : s.pending = .physical win p width write value :: rest)
    (hword : normalise win p width write = .ok word) :
    step s = runTransaction (carrying word value) (s.setPending rest) := by
  rw [step_cons hpending]
  simp only [deliver, runPhysical, hword]

/-- A step with an access that is no transaction is refused (R58, R59, R155). -/
theorem step_physical_error {s : State} {win : Window} {p width : Nat} {write : Bool} {value : Nat}
    {rest : List Delivery} {e : DecodeError} (hpending : s.pending = .physical win p width write value :: rest)
    (herror : normalise win p width write = .error e) : step s = .refused (refusalOf e) := by
  rw [step_cons hpending]
  simp only [deliver, runPhysical, herror]

/-- A step with a word that is no transaction is refused (R63, R155). -/
theorem step_transaction_error {s : State} {t : Transaction} {rest : List Delivery} {e : DecodeError}
    (hpending : s.pending = .transaction t :: rest) (herror : decode t.word t.operand = .error e) :
    step s = .refused (refusalOf e) := by
  rw [step_cons hpending]
  simp only [deliver, runTransaction, herror]

/-- R151: a frame over the limit is refused, whatever the gate. -/
theorem exec_rxDeliver_tooLong {pkt buffer : List Byte} (s : State) (h : params.maxRxFrame < pkt.length) :
    exec (.rxDeliver pkt buffer) s = .refused (.frameTooLong pkt.length) :=
  if_pos h

/-! ## The obligations of the step -/

/-- Settles O6: the access becomes the MMIO word at its logical offset, whose number is the one the statement gives. -/
theorem physicalAccessIsTheLogicalTransaction : Obligations.PhysicalAccessIsTheLogicalTransaction := by
  intro s win p width write value rest word hpending hwidth hin hword
  obtain ⟨w, hw⟩ := widthOf_of_mem hwidth
  have hsize : p + width ≤ win.size := by cases win <;> exact hin
  have heq : word = mmioWord w write (logicalOffset win p) := by
    refine BitVec.eq_of_toNat_eq ?_
    rw [hword, toNat_mmioWord hw, toNat_logicalOffset]
    cases win <;> rfl
  rw [step_physical_ok hpending (normalise_inside hsize hw write), heq, step_cons rfl]
  rfl

/-- Settles O7: the window, the width, the two refusals of a word (by O4), and the frame limit. -/
theorem namedAnomaliesAreRefused : Obligations.NamedAnomaliesAreRefused := by
  refine ⟨?_, ?_, ?_, ?_, ?_⟩
  · intro s win p width write value rest hpending hout
    have hsize : win.size < p + width := by cases win <;> exact hout
    exact step_physical_error hpending (normalise_outside hsize write)
  · intro s win p width write value rest hpending hin hwidth
    have hsize : p + width ≤ win.size := by cases win <;> exact hin
    exact step_physical_error hpending (normalise_badWidth hsize (widthOf_of_not_mem hwidth) write)
  · intro s t rest hpending hreserved
    obtain ⟨htop, -, hlow, -⟩ := decodeRefusesExactlyTheReservedWords t.word t.operand
    refine step_transaction_error hpending (e := .reservedEncoding t.word) ?_
    by_cases hany : rsvOf t.word ≠ 0 ∨ kindOf t.word = 3
    · exact htop hany
    · obtain ⟨hrsv, hkind⟩ := not_or.mp hany
      obtain h | h | ⟨hk, hne⟩ := hreserved
      · exact absurd h hrsv
      · exact absurd h hkind
      · exact hlow (not_not.mp hrsv) hk hne
  · intro s t rest hpending hrsv hk hw
    obtain ⟨-, hwidth, -⟩ := decodeRefusesExactlyTheReservedWords t.word t.operand
    exact step_transaction_error hpending (hwidth hrsv hk hw)
  · intro s t rest hpending hword hlong
    have hdecode : decode t.word t.operand = .ok (.rxDeliver t.operand.frame t.operand.buffer) := by
      rw [hword]
      rfl
    rw [step_cons hpending]
    exact (runTransaction_of_decode hdecode _).trans (exec_rxDeliver_tooLong _ hlong)

end Sys2Proof.Proofs
end

section
/-! PROOFS. The register file (R69 to R120): the offsets without a register, the MAC's default, and what each register
access answers and stores. -/

namespace Sys2Proof.Proofs

open Sys2Proof.Machine Sys2Proof.Claims

/-! ## The fallbacks (R113 to R118) -/

/-- An MMIO word at an offset that is in no exact row of its class decodes to its fallback's instruction. -/
theorem decode_of_not_mem_mappedOffsets {w : Width} {write : Bool} {off : Offset} (h : off ∉ mappedOffsets w write)
    (o : Operand) : decode (mmioWord w write off) o = .ok (unmappedInstr w write off o) :=
  decode_unmapped w write off o ((unmappedInstr_wellFormed_iff w write off o).mpr h)

/-- The readable byte registers stand side by side (R70 to R76). -/
theorem not_mem_byteReadOffsets {off : Offset} (h : off < 0x6000 ∨ 0x6006 < off) : off ∉ byteReadOffsets := by
  have hrange : ∀ r ∈ byteReadOffsets, ¬(r < 0x6000 ∨ 0x6006 < r) := by simp [byteReadOffsets]
  exact fun hmem => hrange off hmem h

/-- The writable byte registers stand side by side but for 0x6007 (R77 to R89). -/
theorem not_mem_byteWriteOffsets {off : Offset} (h : off < 0x6000 ∨ off = 0x6007 ∨ 0x600d < off) :
    off ∉ byteWriteOffsets := by
  have hrange : ∀ r ∈ byteWriteOffsets, ¬(r < 0x6000 ∨ r = 0x6007 ∨ 0x600d < r) := by
    simp [byteWriteOffsets]
  exact fun hmem => hrange off hmem h

/-- Settles O22: no 2-byte access has an exact row, so every offset decodes to the stub, which records its event. -/
theorem twoByteStub : Obligations.TwoByteStub := by
  intro off o v s
  have hunmapped : ∀ write, off ∉ mappedOffsets .half write := fun _ => List.not_mem_nil
  exact ⟨decode_of_not_mem_mappedOffsets (hunmapped false) o, decode_of_not_mem_mappedOffsets (hunmapped true) o,
    rfl, rfl⟩

/-- Settles O23: the offsets of the statement are those without an exact row to read, and a fallback read records the
answer 0 only. -/
theorem unmappedReadsAnswerZero : Obligations.UnmappedReadsAnswerZero := by
  intro off o s
  refine ⟨fun hbyte => ?_, fun hlong => ?_, rfl, rfl⟩
  · exact decode_of_not_mem_mappedOffsets (w := .byte) (write := false) (not_mem_byteReadOffsets hbyte) o
  · exact decode_of_not_mem_mappedOffsets (w := .long) (write := false) hlong o

/-- Settles O24: the offsets of the statement are those without an exact row to write, and a fallback write records its
event only. -/
theorem unmappedWritesChangeNothing : Obligations.UnmappedWritesChangeNothing := by
  intro off o s b v
  refine ⟨fun hbyte => ?_, fun hlong => ?_, rfl, rfl⟩
  · exact decode_of_not_mem_mappedOffsets (w := .byte) (write := true) (not_mem_byteWriteOffsets hbyte) o
  · exact decode_of_not_mem_mappedOffsets (w := .long) (write := true) hlong o

/-! ## The MAC (R84 to R90) -/

/-- A MAC byte 5 write that leaves the MAC unset replaces it by six free bytes (R89, R90). -/
theorem exec_wbMac5_of_unset {v : Byte} {s : State} (hunset : Mac.unset { s.mac with b5 := v } = true) :
    exec (.wbMac5 v) s = .next
      (((s.mmioWrite 0x600d .byte (v.setWidth 32)).setMac (defaultMac s.draws)).setDraws (s.draws + 6)) :=
  congrArg Host.Outcome.next (if_pos hunset)

/-- Settles O16: the written byte and the five others decide whether the MAC is unset, and each case has its rule. -/
theorem macByteFiveAppliesTheDefaultWhenUnset : Obligations.MacByteFiveAppliesTheDefaultWhenUnset := by
  intro s v
  have hiff := mac_unset_iff { s.mac with b5 := v }
  refine ⟨fun hset => ?_, fun hunset => ?_⟩
  · exact exec_wbMac5_of_set (Bool.eq_false_iff.mpr (mt hiff.mp hset))
  · exact exec_wbMac5_of_unset (hiff.mpr hunset)

/-- Settles O15: bytes 0 to 4 are stored by a plain update, outside the default's rule. -/
theorem macByteWritesStoreOneByte : Obligations.MacByteWritesStoreOneByte :=
  fun _ _ => ⟨rfl, rfl, rfl, rfl, rfl⟩

/-! ## The byte registers (R70 to R83) -/

/-- Settles O10: the meaning of a byte read is its event with the register's value. -/
theorem byteReadsAnswerTheirRegister : Obligations.ByteReadsAnswerTheirRegister :=
  fun _ => ⟨rfl, rfl, rfl, rfl, rfl, rfl, rfl⟩

/-- Settles O11: the three words are exact rows, and a status write stores `statusStored` of its value. -/
theorem statusAndResetModeWrites : Obligations.StatusAndResetModeWrites := by
  refine ⟨fun _ => ⟨rfl, rfl, rfl⟩, fun s v => ?_⟩
  rw [← statusStored_eq]
  exact ⟨rfl, rfl, rfl⟩

/-! ## The long registers (R91 to R112, R119, R120) -/

/-- Settles O17: the meaning of a long read is its event with the register's value, at 0x4310 the latch's. -/
theorem longReadsAnswerTheirRegister : Obligations.LongReadsAnswerTheirRegister :=
  fun _ => ⟨rfl, rfl, rfl, rfl, rfl, rfl, rfl, rfl, rfl, rfl, rfl, rfl, rfl⟩

/-- Settles O18: the meaning of a plain long write is its event and the update of its one field. -/
theorem longWritesStoreTheirRegister : Obligations.LongWritesStoreTheirRegister :=
  fun _ _ => ⟨rfl, rfl, rfl, rfl, rfl, rfl, rfl, rfl⟩

/-- Settles O19: the alias updates two fields, and a write to the saved window is its event only. -/
theorem aliasAndReadOnlyLongWrites : Obligations.AliasAndReadOnlyLongWrites :=
  fun _ _ => ⟨rfl, rfl, rfl⟩

end Sys2Proof.Proofs
end

section
/-! PROOFS. The CSR write and the TX transfer (R121 to R138): which bits of a written value count, the CSR value a write
leaves under the default layout, and the whole next state of each form of a CSR write. -/

namespace Sys2Proof.Proofs

open Sys2Proof.Machine Sys2Proof.Claims

/-! ## The commands of a CSR write (R121) -/

/-- A command runs its action when the written value shares a bit with its mask. -/
theorem onCommand_eq (v mask : Word) (action : State → State) (s : State) :
    onCommand v mask action s = if v &&& mask ≠ 0 then action s else s := by
  simp [onCommand, hits]

/-- Settles O25: a CSR write is the nesting of its four commands, and each action is one update of the CSR, with the
transfer after SETENABLE on TX. -/
theorem csrWriteRunsItsActionsInOrder : Obligations.CsrWriteRunsItsActionsInOrder := by
  intro P ch v s
  refine ⟨?_, rfl, ⟨_, rfl⟩, ⟨_, rfl⟩, rfl, rfl⟩
  simp only [← onCommand_eq]
  exact ⟨_, _, _, rfl, rfl, rfl, rfl⟩

/-! ## The bits of a written value that count (R126) -/

/-- The bits of a written value that some command tests. -/
def commandMask (L : CsrLayout) : Word := L.cmdReset ||| L.cmdSetEnable ||| L.cmdSetSupdate ||| L.cmdClrComplete

/-- Two values that differ in no bit of a mask give its test the same answer. -/
theorem hits_eq_of_xor {v w m : Word} (h : (v ^^^ w) &&& m = 0) : hits v m = hits w m := by
  have hand : v &&& m = w &&& m := by
    rw [← BitVec.xor_eq_zero_iff]
    refine Eq.trans (BitVec.eq_of_getLsbD_eq fun i _ => ?_) h
    simp only [BitVec.getLsbD_xor, BitVec.getLsbD_and, Bool.and_xor_distrib_right]
  rw [hits, hits, hand]

/-- Two values that differ in no command bit run the same actions. -/
theorem csrWrite_eq_of_xor {P : Params} {v w : Word} (h : (v ^^^ w) &&& commandMask P.layout = 0) (ch : Chan)
    (s : State) : csrWrite P ch v s = csrWrite P ch w s := by
  simp only [commandMask, BitVec.and_or_distrib_left, BitVec.ofNat_eq_ofNat, BitVec.or_eq_zero_iff] at h
  obtain ⟨⟨⟨hreset, henable⟩, hsupdate⟩, hcomplete⟩ := h
  simp only [csrWrite, onCommand, hits_eq_of_xor hreset, hits_eq_of_xor henable, hits_eq_of_xor hsupdate,
    hits_eq_of_xor hcomplete]

/-- A value with no command bit runs no action. -/
theorem csrWrite_of_no_command {P : Params} {v : Word} (h : v &&& commandMask P.layout = 0) (ch : Chan) (s : State) :
    csrWrite P ch v s = s :=
  calc csrWrite P ch v s = csrWrite P ch 0 s := csrWrite_eq_of_xor (by simpa using h) ch s
    _ = s := by simp [csrWrite, onCommand, hits]

/-- Of two single-bit masks one hits the other only when they are the same (R18). -/
theorem hits_of_isSingleBit {a b : Word} (ha : isSingleBit a = true) (hb : isSingleBit b = true) :
    hits a b = decide (a = b) := by
  obtain ⟨j, hj, rfl⟩ := (isSingleBit_iff a).mp ha
  obtain ⟨k, hk, rfl⟩ := (isSingleBit_iff b).mp hb
  rw [hits_shift _ hk, getLsbD_shift_one _ _ hk, decide_eq_decide]
  refine ⟨fun h => h ▸ rfl, fun h => ?_⟩
  have hbit := getLsbD_shift_one k k hk
  rw [← h, getLsbD_shift_one j k hk] at hbit
  simpa using hbit

/-- The four command masks of a well-formed layout are single bits, no two of them the same (R18). -/
theorem wellFormed_commandMasks {L : CsrLayout} (h : L.wellFormed = true) :
    (isSingleBit L.cmdReset = true ∧ isSingleBit L.cmdSetEnable = true ∧ isSingleBit L.cmdSetSupdate = true ∧
      isSingleBit L.cmdClrComplete = true) ∧
    [L.cmdSetEnable, L.cmdSetSupdate, L.cmdClrComplete, L.cmdReset].Nodup := by
  simp only [CsrLayout.wellFormed, Bool.and_eq_true, List.all_cons, decide_eq_true_eq] at h
  obtain ⟨⟨⟨-, -, -, henable, hsupdate, hcomplete, hreset, -⟩, -⟩, hdistinct⟩ := h
  exact ⟨⟨hreset, henable, hsupdate, hcomplete⟩, hdistinct⟩

/-- The value of one command mask runs that command alone: it hits its own mask and no other command's. -/
theorem csrWrite_command {P : Params} (hL : P.layout.wellFormed = true) (ch : Chan) (s : State) :
    csrWrite P ch P.layout.cmdReset s = csrReset P ch s ∧
    csrWrite P ch P.layout.cmdSetEnable s = csrSetEnable P ch s ∧
    csrWrite P ch P.layout.cmdSetSupdate s = csrSetSupdate P ch s ∧
    csrWrite P ch P.layout.cmdClrComplete s = csrClrComplete P ch s := by
  obtain ⟨⟨hreset, henable, hsupdate, hcomplete⟩, hdistinct⟩ := wellFormed_commandMasks hL
  simp only [List.nodup_cons, List.mem_cons, List.not_mem_nil, or_false, not_or] at hdistinct
  obtain ⟨⟨heu, hec, her⟩, ⟨huc, hur⟩, hcr, -⟩ := hdistinct
  refine ⟨?_, ?_, ?_, ?_⟩
  · simp [csrWrite, onCommand, hits_of_isSingleBit, *, Ne.symm her, Ne.symm hur, Ne.symm hcr]
  · simp [csrWrite, onCommand, hits_of_isSingleBit, *]
  · simp [csrWrite, onCommand, hits_of_isSingleBit, *, Ne.symm heu]
  · simp [csrWrite, onCommand, hits_of_isSingleBit, *, Ne.symm hec, Ne.symm huc]

/-- Settles O26: equal command bits run the same actions, a single command's value hits that command alone, and the state
mask of the default layout holds no command bit. -/
theorem onlyCommandBitsOfACsrWriteCount : Obligations.OnlyCommandBitsOfACsrWriteCount := by
  refine ⟨fun P ch v w s h => csrWrite_eq_of_xor h ch s, fun P ch s hL => csrWrite_command hL ch s, fun ch v s h => ?_⟩
  have hcommands : commandMask params.layout = ~~~0x0b000000#32 &&& commandMask params.layout := by decide
  refine csrWrite_of_no_command ?_ ch s
  rw [hcommands, ← BitVec.and_assoc, h]
  exact BitVec.zero_and

/-! ## The CSR value under the default layout (R18, D3) -/

/-- Bit `i` of a value put together from its flags. -/
theorem csrBits_bit (rest : Word) (enable supdate complete : Bool) {i : Nat} (hi : i < 32) :
    (csrBits rest enable supdate complete).getLsbD i =
      (rest.getLsbD i || (enable && decide (i = 24)) || (supdate && decide (i = 25)) ||
        (complete && decide (i = 27))) := by
  have hflag : ∀ (b : Bool) (k : Nat), (if b then 1#32 <<< k else 0).getLsbD i = (b && decide (i = k)) := by
    intro b k
    cases b
    · simp
    · exact getLsbD_shift_one k i hi
  simp only [← hflag, ← BitVec.getLsbD_or]
  rfl

/-- A CSR value is put together from the bits outside the state mask and its three flags. -/
theorem eq_csrBits {c d : Word} (h : d &&& ~~~params.layout.stateMask = c &&& ~~~params.layout.stateMask) :
    d = csrBits (c &&& ~~~0x0b000000#32) (d.getLsbD 24) (d.getLsbD 25) (d.getLsbD 27) := by
  have hmask : params.layout.stateMask = 0x0b000000#32 := by decide
  rw [← hmask, ← h]
  refine BitVec.eq_of_getLsbD_eq fun i hi => ?_
  rw [csrBits_bit _ _ _ _ hi]
  simp only [CsrLayout.stateMask, BitVec.getLsbD_and, BitVec.getLsbD_not, BitVec.getLsbD_or, enable_bit hi,
    supdate_bit hi, complete_bit hi, hi, decide_true, Bool.true_and]
  by_cases he : i = 24
  · simp [he]
  by_cases hu : i = 25
  · simp [hu]
  by_cases hc : i = 27
  · simp [hc]
  simp [he, hu, hc]

/-- The CSR after the four actions of a CSR write without a transfer (R122 to R125). -/
theorem csrCommanded_default (v c : Word) :
    csrCommanded params.layout v c = csrBits (c &&& ~~~0x0b000000#32)
      (v.getLsbD 16 || (c.getLsbD 24 && !v.getLsbD 20))
      (v.getLsbD 17 || (c.getLsbD 25 && !v.getLsbD 20))
      (c.getLsbD 27 && !v.getLsbD 20 && !v.getLsbD 19) := by
  obtain ⟨henable, hsupdate, hcomplete⟩ := csrCommanded_default_flags v c
  rw [eq_csrBits (csrCommanded_outside params.layout v c), henable, hsupdate, hcomplete]

/-- The CSR after a CSR write that completes a transfer (R123, R125, R135). -/
theorem csrTransferred_default (v c : Word) :
    csrTransferred params.layout v c = csrBits (c &&& ~~~0x0b000000#32) true true (!v.getLsbD 19) := by
  obtain ⟨henable, hsupdate, hcomplete⟩ := csrTransferred_default_flags v c
  rw [eq_csrBits (csrTransferred_outside params.layout v c), henable, hsupdate, hcomplete]

/-! ## A CSR write that moves no frame (R127, R128) -/

/-- Settles O27: an RX CSR write runs the four actions on the CSR alone, and their value is known bit by bit. -/
theorem rxCsrWriteBitByBit : Obligations.RxCsrWriteBitByBit := by
  intro s v
  rw [exec_wlRxCsr, csrCommanded_default]
  rfl

/-- Settles O28: so does a TX CSR write without SETENABLE, and its SETENABLE bit is 0 in that value. -/
theorem txCsrWriteWithoutEnableMovesNothing : Obligations.TxCsrWriteWithoutEnableMovesNothing := by
  intro s v hv
  rw [exec_wlTxCsr_of_not_setEnable s hv, csrCommanded_default, hv]
  rfl

/-! ## The TX transfer (R129 to R138) -/

/-- The next state of a transfer within the capacity, field by field (R133 to R136). -/
theorem txComplete_eq (P : Params) (n : Nat) (s : State) :
    txComplete P n s = { s with
      tx := { s.tx with csr := csrTxDone P.layout s.tx.csr }
      txStat := 0x80
      irq := { s.irq with txDma := true }
      sinkLines := { s.sinkLines with txDma := true }
      history := s.history ++ (if n = 0 then [] else [.busRead s.tx.base n (s.memReadBytes s.tx.base n)])
        ++ [.netSend (s.memReadBytes s.tx.base n), .irq .txDma]
      draws := s.draws + n } := by
  ext <;> simp [statIdle, IrqLevels.assert]

/-- Settles O33: the next state of a transfer within the capacity, whose events are its bus read, its frame and the
assertion. -/
theorem txCompletionSetsStatusAndLine : Obligations.TxCompletionSetsStatusAndLine := by
  intro P s hlen
  rw [txTransfer_within hlen, txComplete_eq]
  refine ⟨rfl, rfl, rfl, _, List.append_assoc _ _ _, ?_⟩
  split <;> rfl

/-- Settles O31: the write completes its transfer, from the state that holds its own event, and leaves the CSR known bit
by bit. -/
theorem txTransferWithinCapacity : Obligations.TxTransferWithinCapacity := by
  intro s v hv hlen
  have hset : hits v params.layout.cmdSetEnable = true := (hits_cmdSetEnable v).trans hv
  have hwrite := csrWrite_tx_completed (s := s.mmioWrite 0x0110 .long v) hset hlen
  rw [txComplete_eq, csrTransferred_default] at hwrite
  exact congrArg Host.Outcome.next hwrite

/-- A TX CSR write over the capacity leaves its rejection and the four actions' CSR (R131, R132). -/
theorem csrWrite_tx_rejected {P : Params} {v : Word} {s : State} (hv : hits v P.layout.cmdSetEnable = true)
    (hlen : P.txBufCapacity < txLength P s.tx) :
    csrWrite P .tx v s = (logged s [.txRejected (txLength P s.tx)]).setTx
      { s.tx with csr := csrCommanded P.layout v s.tx.csr } := by
  rw [csrWrite_tx_enable _ _ _ hv, txTransfer_rejected (by exact hlen)]
  simp only [csrCommanded, hv]
  rfl

/-- Settles O32: the rejection under the default layout, and the write after its own event. -/
theorem oversizedTxTransferIsRejected : Obligations.OversizedTxTransferIsRejected := by
  refine ⟨fun P s v hlayout hv hlen => ?_, fun s v => rfl⟩
  have hparams : P.layout = params.layout := hlayout
  rw [csrWrite_tx_rejected (by rw [hparams, hits_cmdSetEnable, hv]) hlen, hparams, csrCommanded_default, hv]
  rfl

end Sys2Proof.Proofs
end

section
/-! PROOFS. The RX delivery (R139 to R152): the gate, the whole next state of an accepted delivery under any parameters,
and two deliveries in a row with SUPDATE set. -/

namespace Sys2Proof.Proofs

open Sys2Proof.Machine Sys2Proof.Claims

/-! ## The accept gate (R139 to R141) -/

/-- The gate is closed exactly when bits 1:0 of RX mode are 0 (R139). -/
theorem gate_eq_false_iff (s : State) : gate s = false ↔ s.rxMode &&& 0x03 = 0 :=
  bne_eq_false_iff_eq

/-- The gate is open exactly when bits 1:0 of RX mode are not both 0 (R139). -/
theorem gate_eq_true_iff (s : State) : gate s = true ↔ s.rxMode &&& 0x03 ≠ 0 :=
  bne_iff_ne

/-- Settles O35: the meaning of the query is its own event with the gate, which is that test of RX mode. -/
theorem canAcceptAnswersTheGate : Obligations.CanAcceptAnswersTheGate :=
  fun _ => rfl

/-- Settles O36: a frame within the limit of D30 is delivered, and at a closed gate only its own event is recorded. -/
theorem deliveryAtAClosedGateChangesNothing : Obligations.DeliveryAtAClosedGateChangesNothing := by
  intro s pkt buffer hmode hlen
  rw [exec_rxDeliver_next s hlen, rxDeliver_closed _ _ _ _ ((gate_eq_false_iff s).mpr hmode)]
  rfl

/-! ## An accepted delivery (R142 to R151) -/

/-- Only the empty frame makes an RX transfer of no bytes (R142, D8). -/
theorem rxBytes_eq_nil_iff (pkt buffer : List Byte) (d : Nat) : rxBytes pkt buffer d = [] ↔ pkt = [] := by
  obtain ⟨hframe, -, -⟩ := ceil32_spec pkt.length
  rw [← List.length_eq_zero_iff, ← List.length_eq_zero_iff, rxBytes_length]
  refine ⟨fun h => by omega, fun h => ?_⟩
  rw [h]
  rfl

/-- A mask is not hit exactly when the value shares no bit with it (R121, R146). -/
theorem hits_eq_false_iff (v mask : Word) : hits v mask = false ↔ v &&& mask = 0 :=
  bne_eq_false_iff_eq

/-- A mask is hit exactly when the value shares a bit with it (R121, R146). -/
theorem hits_eq_true_iff (v mask : Word) : hits v mask = true ↔ v &&& mask ≠ 0 :=
  bne_iff_ne

/-- Clearing SUPDATE where it is not set changes nothing (R147). -/
theorem csrChainTaken_of_not_hits {L : CsrLayout} {c : Word} (h : hits c L.supdate = false) :
    csrChainTaken L c = c := by
  have hclear : c &&& L.supdate = 0#32 := (hits_eq_false_iff _ _).mp h
  calc c &&& ~~~L.supdate = (c &&& L.supdate) ||| (c &&& ~~~L.supdate) := by rw [hclear, BitVec.zero_or]
    _ = c := by rw [← BitVec.and_or_distrib_left, BitVec.or_not_self, BitVec.and_allOnes]

/-- The RX channel after the chain step, SUPDATE set or not (R146, R147): the window is the chained one or stays, and
the CSR loses SUPDATE when the parameter says so, which changes nothing where SUPDATE is clear. -/
theorem rxAdoptChain_rx_eq (P : Params) (s : State) :
    (rxAdoptChain P s).rx = { s.rx with
      base := if hits s.rx.csr P.layout.supdate then s.rx.chainbase else s.rx.base
      limit := if hits s.rx.csr P.layout.supdate then s.rx.chainlimit else s.rx.limit
      csr := if P.rxSupdateAutoclear then csrChainTaken P.layout s.rx.csr else s.rx.csr } := by
  rw [rxAdoptChain_rx]
  cases hchain : hits s.rx.csr P.layout.supdate
  · rw [csrChainTaken_of_not_hits hchain, ite_self]
    rfl
  · rfl

/-- The end of an RX transfer sets COMPLETE, whatever the CSR held (R148). -/
theorem csrRxDone_and_complete (L : CsrLayout) (c : Word) : csrRxDone L c &&& L.complete = L.complete := by
  refine BitVec.eq_of_getLsbD_eq fun i _ => ?_
  rw [BitVec.getLsbD_and, csrRxDone_bit, Bool.and_eq_right_iff_imp]
  exact fun hset => by rw [hset, Bool.or_true]

/-- The next state of an RX transfer under any parameters, field by field (R144 to R149). -/
theorem rxTransfer_eq (P : Params) (pkt buffer : List Byte) (s : State) :
    rxTransfer P pkt buffer s = { s with
      rx := { s.rx with
        savedbase := s.rx.base
        savedlimit := s.rx.base + BitVec.ofNat 32 (ceil32 pkt.length)
        base := if hits s.rx.csr P.layout.supdate then s.rx.chainbase else s.rx.base
        limit := if hits s.rx.csr P.layout.supdate then s.rx.chainlimit else s.rx.limit
        csr := csrRxDone P.layout (if P.rxSupdateAutoclear then csrChainTaken P.layout s.rx.csr else s.rx.csr) }
      rxStat := 0x80
      irq := { s.irq with rxDma := true }
      sinkLines := { s.sinkLines with rxDma := true }
      mem := s.mem.storeBytes s.rx.base (rxBytes pkt buffer s.draws)
      history := s.history ++ (if pkt = [] then [] else [.busWrite s.rx.base (rxBytes pkt buffer s.draws)])
        ++ [.irq .rxDma]
      draws := s.draws + paddingDraws buffer (ceil32 pkt.length - pkt.length) } := by
  ext1
  case rx => rw [rxTransfer, rxComplete_rx, rxAdoptChain_rx_eq, rxSaveWindow_rx, rxStore_rx]
  case history => simp only [rxTransfer, rxComplete_history, rxAdoptChain_history, rxSaveWindow_history,
    rxStore_history, rxBytes_eq_nil_iff]
  all_goals simp [rxTransfer, statIdle, IrqLevels.assert]

/-- Settles O37: the next state of the transfer under the model's parameters, which keep SUPDATE. -/
theorem acceptedDeliveryNextState : Obligations.AcceptedDeliveryNextState := by
  intro s pkt buffer hmode hlen
  have hkeeps : params.rxSupdateAutoclear = false := rfl
  dsimp only
  rw [exec_rxDeliver_next s hlen, rxDeliver_open _ _ _ _ ((gate_eq_true_iff s).mpr hmode), rxTransfer_eq, hits_supdate,
    hkeeps, ← ceil32_eq]
  rfl

/-- Settles O38: the fields of that next state under any parameters; of its events only the last asserts a line. -/
theorem acceptedDeliverySavesChainsCompletes : Obligations.AcceptedDeliverySavesChainsCompletes := by
  intro P s pkt buffer hgate
  dsimp only
  rw [rxDeliver_open _ _ _ _ hgate, rxTransfer_eq, ← ceil32_eq]
  refine ⟨rfl, toNat_busAddress _ _, fun h => ?_, fun h => ?_, rfl, rfl, rfl, ?_, rfl, rfl, _,
    (List.append_assoc _ _ _).trans (List.append_assoc _ _ _), ?_⟩
  · simp [(hits_eq_true_iff _ _).mpr h]
  · simp [(hits_eq_false_iff _ _).mpr h]
  · exact csrRxDone_and_complete _ _
  · split <;> rfl

/-! ## Two deliveries with SUPDATE set (R152, R176) -/

/-- A delivery at an open gate with SUPDATE set adopts the chained window and leaves what the next one needs: the gate,
SUPDATE (D5) and the chain fields (R146, R147). -/
theorem exec_rxDeliver_adopts {pkt buffer : List Byte} {s t : State} (hgate : gate s = true)
    (hsupdate : s.rx.csr.getLsbD 25 = true) (h : exec (.rxDeliver pkt buffer) s = .next t) :
    gate t = true ∧ t.rx.csr.getLsbD 25 = true ∧ t.rx.savedbase = s.rx.base ∧
      t.rx.base = s.rx.chainbase ∧ t.rx.limit = s.rx.chainlimit ∧
      t.rx.chainbase = s.rx.chainbase ∧ t.rx.chainlimit = s.rx.chainlimit := by
  cases exec_rxDeliver_action h with
  | accepted =>
    obtain ⟨-, hstays, -⟩ := csrRxDone_default_flags s.rx.csr
    rw [rxTransfer_rx, State.record_rx, hsupdate]
    exact ⟨by simpa [gate, rxTransfer] using hgate, hstays.trans hsupdate, rfl, rfl, rfl, rfl, rfl⟩
  | notAccepted _ _ _ hclosed => exact absurd hgate (by simp [hclosed])

/-- Settles O41: each of the two deliveries adopts the chain, which the first leaves to the second. -/
theorem chainIsAdoptedAgainByTheNextDelivery : Obligations.ChainIsAdoptedAgainByTheNextDelivery := by
  intro s t u pkt buffer pkt' buffer' hgate hsupdate ht hu
  obtain ⟨hgate', hsupdate', -, hbase, -, hchainbase, hchainlimit⟩ := exec_rxDeliver_adopts hgate hsupdate ht
  obtain ⟨-, hsupdate'', hsaved, hbase', hlimit', -, -⟩ := exec_rxDeliver_adopts hgate' hsupdate' hu
  exact ⟨hsupdate', hsupdate'', hsaved.trans hbase, hbase'.trans hchainbase, hlimit'.trans hchainlimit⟩

end Sys2Proof.Proofs
end

section
/-! PROOFS. What stops a run and what asserts a line (R153, R154, R158): which transactions answer a next state, and the
lines asserted by the events a transaction appends. -/

namespace Sys2Proof.Proofs

open Sys2Proof.Machine Sys2Proof.Claims

/-! ## The transactions that answer a next state (R63, R151, R153) -/

/-- An instruction answers a next state unless it delivers a frame over the limit (R151, R153). -/
theorem exec_next {i : Instr} (s : State)
    (hlen : ∀ pkt buffer, i = .rxDeliver pkt buffer → pkt.length ≤ params.maxRxFrame) :
    ∃ t, exec i s = .next t := by
  cases i
  case rxDeliver pkt buffer => exact ⟨_, exec_rxDeliver_next s (hlen pkt buffer rfl)⟩
  all_goals exact ⟨_, rfl⟩

/-- A delivery is decoded from its one word, and its frame is the operand's (R64, R151). -/
theorem decode_rxDeliver_inv {w : Word} {o : Operand} {pkt buffer : List Byte}
    (h : decode w o = .ok (.rxDeliver pkt buffer)) : w = 0x00100000 ∧ o.frame = pkt := by
  obtain ⟨-, rfl⟩ := decodedInstructionsEncodeToTheirWord w o _ h
  have hframe : decode 0x00100000 o = .ok (.rxDeliver o.frame o.buffer) := rfl
  cases hframe.symm.trans h
  exact ⟨rfl, rfl⟩

/-- A transaction that decodes answers a next state, a delivery if its frame is within the limit (R151, R153). -/
theorem runTransaction_next {t : Transaction} {i : Instr} (s : State) (hdecode : decode t.word t.operand = .ok i)
    (hlen : t.word = 0x00100000 → t.operand.frame.length ≤ params.maxRxFrame) :
    ∃ u, runTransaction t s = .next u := by
  rw [runTransaction_of_decode hdecode]
  refine exec_next s fun pkt buffer hi => ?_
  obtain ⟨hword, rfl⟩ := decode_rxDeliver_inv (hi ▸ hdecode)
  exact hlen hword

/-- A word without one of the faults R63 names decodes: its kind is MMIO or one of the two network kinds. -/
theorem decode_of_fields {w : Word} (hrsv : rsvOf w = 0) (hkind : kindOf w ≠ 3)
    (hlow : kindOf w ∈ [1, 2] → w.toNat % 2 ^ 20 = 0) (hwidth : kindOf w = 0 → widthFieldOf w ∈ [1, 2, 4])
    (o : Operand) : ∃ i, decode w o = .ok i := by
  obtain ⟨-, -, -, hmmio, hnetwork⟩ := decodeRefusesExactlyTheReservedWords w o
  by_cases hzero : kindOf w = 0
  · exact hmmio hrsv hzero (hwidth hzero)
  · have hlt : kindOf w < 4 := Nat.mod_lt _ (by decide)
    have hmem : kindOf w ∈ [1, 2] := by
      simp only [List.mem_cons, List.not_mem_nil, or_false]
      omega
    exact hnetwork hrsv hmem (hlow hmem)

/-- A transaction answers a next state, or its word or its frame has one of the faults R154 names. -/
theorem runTransaction_next_or_anomaly (t : Transaction) (s : State) :
    (∃ u, runTransaction t s = .next u) ∨
      rsvOf t.word ≠ 0 ∨ kindOf t.word = 3 ∨ (kindOf t.word ∈ [1, 2] ∧ t.word.toNat % 2 ^ 20 ≠ 0) ∨
        (kindOf t.word = 0 ∧ widthFieldOf t.word ∉ [1, 2, 4]) ∨
        (t.word = 0x00100000 ∧ 2 ^ 32 - 32 < t.operand.frame.length) := by
  refine or_iff_not_imp_right.mpr fun hnone => ?_
  simp only [not_or, not_and, not_not, Nat.not_lt] at hnone
  obtain ⟨hrsv, hkind, hlow, hwidth, hlen⟩ := hnone
  obtain ⟨i, hdecode⟩ := decode_of_fields hrsv hkind hlow hwidth t.operand
  exact runTransaction_next s hdecode hlen

/-- An access inside its window and of an accepted width answers a next state: its word is an MMIO word, which decodes,
and it carries no frame (R56, R59). -/
theorem runPhysical_next {win : Window} {p width : Nat} (hin : p + width ≤ win.size) (hwidth : width ∈ [1, 2, 4])
    (write : Bool) (value : Nat) (s : State) : ∃ u, runPhysical win p width write value s = .next u := by
  obtain ⟨w, hw⟩ := widthOf_of_mem hwidth
  obtain ⟨i, hdecode⟩ := decode_mmioWord w write (logicalOffset win p) ⟨value, [], []⟩
  simp only [runPhysical, normalise_inside hin hw]
  exact runTransaction_next s hdecode fun _ => Nat.zero_le _

/-- Settles O8, input by input: a transaction and a physical access by their anomalies, and the inputs outside the block
always answer a next state. -/
theorem onlyNamedAnomaliesStopARun : Obligations.OnlyNamedAnomaliesStopARun := by
  intro s
  rcases hpending : s.pending with _ | ⟨d, rest⟩
  · exact .inl ⟨s, step_nil hpending⟩
  rw [step_cons hpending]
  cases d with
  | transaction t =>
    exact (runTransaction_next_or_anomaly t _).imp_right fun hanomaly => .inr ⟨t, rest, rfl, hanomaly⟩
  | physical win p width write value =>
    by_cases hin : p + width ≤ win.size
    · by_cases hwidth : width ∈ [1, 2, 4]
      · exact .inl (runPhysical_next hin hwidth write value _)
      · exact .inr (.inl ⟨win, p, width, write, value, rest, rfl, .inr hwidth⟩)
    · have hout : win.size < p + width := Nat.lt_of_not_le hin
      exact .inr (.inl ⟨win, p, width, write, value, rest, rfl, .inl (by cases win <;> exact hout)⟩)
  | busStore addr bytes => exact .inl ⟨_, rfl⟩
  | deassert line => exact .inl ⟨_, rfl⟩
  | platformReset => exact .inl ⟨_, rfl⟩

/-! ## The lines a transaction asserts (R158) -/

/-- From `s` to `t` the history grows by events that assert exactly these lines, in this order. -/
def Asserts (lines : List IrqLine) (s t : State) : Prop :=
  ∃ new, t.history = s.history ++ new ∧ new.filterMap lineOf = lines

/-- An event that asserts no line, recorded first, adds nothing to the lines asserted. -/
theorem Asserts.after_record {lines : List IrqLine} {e : Event} {s t : State} (h : Asserts lines (s.record e) t)
    (he : lineOf e = none) : Asserts lines s t := by
  obtain ⟨new, hhist, hlines⟩ := h
  refine ⟨e :: new, hhist.trans (List.append_assoc _ _ _), ?_⟩
  rw [List.filterMap_cons_none he, hlines]

/-- A TX CSR write asserts IRQ_TX_DMA when it completes a transfer and no line otherwise (R132, R136). -/
theorem csrWrite_tx_asserts (v : Word) (s : State) :
    Asserts (if txCompletes v s then [.txDma] else []) s (csrWrite params .tx v s) := by
  unfold txCompletes
  cases hv : hits v params.layout.cmdSetEnable
  · rw [csrWrite_tx_idle _ _ _ hv]
    exact ⟨[], (List.append_nil _).symm, rfl⟩
  · by_cases hlen : txLength params s.tx ≤ params.txBufCapacity
    · obtain ⟨-, -, -, hasserts⟩ := txCompletionSetsStatusAndLine params
        (s.setTx { s.tx with csr := csrEnabled params.layout (csrAfterReset params.layout v s.tx.csr) }) hlen
      rw [csrWrite_tx_enable _ _ _ hv, decide_eq_true hlen]
      exact hasserts
    · rw [csrWrite_tx_rejected hv (Nat.lt_of_not_le hlen), decide_eq_false hlen]
      exact ⟨[.txRejected _], rfl, rfl⟩

/-- A delivery asserts IRQ_RX_DMA when the gate is open and no line otherwise (R141, R149). -/
theorem rxDeliver_asserts (P : Params) (pkt buffer : List Byte) (s : State) :
    Asserts (if gate s then [.rxDma] else []) s (rxDeliver P pkt buffer s) := by
  cases hgate : gate s
  · rw [rxDeliver_closed _ _ _ _ hgate]
    exact ⟨[.rxDeliver pkt .notAccepted], rfl, rfl⟩
  · obtain ⟨-, -, -, -, -, -, -, -, -, -, hasserts⟩ := acceptedDeliverySavesChainsCompletes P s pkt buffer hgate
    exact hasserts

/-- Settles O42: the two completions assert their line once, and every other transaction records its own event alone. -/
theorem onlyCompletionsAssertALine : Obligations.OnlyCompletionsAssertALine := by
  intro i s t h
  cases i
  case wlTxCsr v =>
    cases h
    exact (csrWrite_tx_asserts v (s.mmioWrite 0x0110 .long v)).after_record rfl
  case wlRxCsr v =>
    cases h
    rw [csrWrite_rx]
    exact ⟨[_], rfl, rfl⟩
  case rxDeliver pkt buffer =>
    obtain ⟨-, rfl⟩ := exec_rxDeliver_inv h
    exact rxDeliver_asserts params pkt buffer s
  case wbMac5 v =>
    cases h
    exact ⟨[_], State.macDefaultIfUnset_history _, rfl⟩
  all_goals
    cases h
    exact ⟨[_], rfl, rfl⟩

end Sys2Proof.Proofs
end

section
/-! PROOFS. The state at creation (R171): every field at the value the spec or the model gives it, and the accept gate
of R139 closed. -/

namespace Sys2Proof.Proofs

open Sys2Proof.Machine Sys2Proof.Claims

/-- A device just created accepts no frame: neither gate bit of its RX mode is set (R139, R171). -/
theorem gate_recreate (s : State) : gate s.recreate = false := by
  rw [← Bool.not_eq_true, gate_iff, State.recreate_rxMode]
  decide

/-- Settles O47: each field by the definition of the state at creation, the gate as that of a device just created. -/
theorem resetStateIsTheCreationState : Obligations.ResetStateIsTheCreationState :=
  ⟨rfl, rfl, rfl, rfl, rfl, rfl, rfl, rfl, rfl, rfl, rfl, rfl, rfl, rfl, rfl, rfl, gate_recreate State.reset⟩

end Sys2Proof.Proofs
end
